-- ==== Sys2Proof/Word.lean ====
section
/-!
DEFINITION. The value types of the block: the selector word and the enumerated registers
(spec/10_state.md section 2 and 3, spec/30_encoding.md section 2). Their numeric codes are in Decode.lean.
-/

namespace Sys2Proof

/-- The operation selector `SEL`, a 10-bit word that is computed and stored nowhere
(spec/30_encoding.md R87). -/
abbrev Sel := BitVec 10

/-- The three agents that perform operations (spec/00_scope.md R6). -/
inductive Agent where
  | dispatcher
  | tovHandler
  | pcHandler
deriving DecidableEq, Repr, Inhabited

/-- The field `SRC` of the selector: who acts. `reserved` is the code 0b11, which cannot be generated
(spec/30_encoding.md R87, R91). -/
inductive Source where
  | dispatcher
  | tov
  | pc
  | reserved
deriving DecidableEq, Repr

/-- The raw level of the active-low button line: `low` means pressed, `high` means released
(spec/30_encoding.md R83). -/
inductive Level where
  | low
  | high
deriving DecidableEq, Repr, Inhabited

/-- The values of `BSTATE` (spec/10_state.md R23, spec/30_encoding.md R82). -/
inductive BState where
  | unknown
  | triggered
  | debouncing
  | debounced
deriving DecidableEq, Repr

/-- The values of `BPOS` (spec/10_state.md R24, spec/30_encoding.md R83). -/
inductive BPos where
  | released
  | pressed
deriving DecidableEq, Repr

/-- The two-bit register `MODE`: the three lighting modes and the reserved code 3
(spec/10_state.md R27, spec/30_encoding.md R84). DESIGN CHOICE (log entry 8), safe: the reserved code is a
value of the type, so that the refusal of R91 can be stated. -/
inductive Mode where
  | off
  | max
  | blink
  | reserved
deriving DecidableEq, Repr

/-- The four-bit register `DPHASE`: the thirteen phases and the reserved codes 13 to 15
(spec/10_state.md R35, spec/30_encoding.md R85). DESIGN CHOICE (log entry 8), safe: as for `Mode`. -/
inductive Phase where
  | wait
  | debounce
  | mode
  | pdClk
  | pdDrv
  | pdLed
  | sleep
  | asleep
  | poll
  | puDrv
  | puClk
  | status
  | clear
  | reserved13
  | reserved14
  | reserved15
deriving DecidableEq, Repr

end Sys2Proof
end

