-- ==== Sys2Proof/Config.lean ====
section
/-!
DEFINITION. What an implementation fixes (the parameters P1 to P12 of spec/00_scope.md R8 with the effect
table of spec/20_memory.md R60), and the free values (spec/93_implementation_defined.md U3, U4).
-/

namespace Sys2Proof

/-- The build-time parameters. `MODE_COUNT` (P4) is fixed at 3 and is `Config.modeCount`. -/
structure Config where
  /-- P1 `TICK_DIV`: timer overflows per tick. -/
  tickDiv : Nat
  /-- P2 `PRESS_TIMEOUT`: debounce window in ticks when the target is Pressed. -/
  pressTimeout : Nat
  /-- P3 `RELEASE_TIMEOUT`: debounce window in ticks when the target is Released. -/
  releaseTimeout : Nat
  /-- P5 `EFFECT_LEN`: number of entries of the effect table. -/
  effectLen : Nat
  /-- P6 `EFFECT`: the duty value of each entry, in order. -/
  effect : List Nat
  /-- P7 `BLINK_DELAY`: the per-step delay in ticks. -/
  blinkDelay : Nat
  /-- P8 `MAX_DUTY`: exclusive upper bound of a valid duty level, equal to the PWM compare-top (R9). -/
  maxDuty : Nat
  /-- P9 `DUTY_W`: bit width of `OCR`. -/
  dutyW : Nat
  /-- P10 `MAX_MODE_DUTY`: duty value applied in mode Max. -/
  maxModeDuty : Nat
  /-- P11 `STATUS_DIV`: dispatcher passes per toggle of the status indicator. -/
  statusDiv : Nat
  /-- P12 `CNT_W`: bit width of every counter register. -/
  cntW : Nat
deriving DecidableEq, Repr

/-- P4 `MODE_COUNT`, fixed at 3 (spec/00_scope.md R8). -/
def Config.modeCount : Nat := 3

/-- The default of P10: floor(9 × `MAX_DUTY` / 10) (spec/00_scope.md R8). -/
def Config.defaultMaxModeDuty (maxDuty : Nat) : Nat := 9 * maxDuty / 10

/-- The reference configuration `REF` of spec/00_scope.md R8: the spec's own small numbers for testing,
not those of a real build. -/
def Config.ref : Config where
  tickDiv := 4
  pressTimeout := 5
  releaseTimeout := 3
  effectLen := 3
  effect := [40, 120, 0]
  blinkDelay := 2
  maxDuty := 200
  dutyW := 8
  maxModeDuty := Config.defaultMaxModeDuty 200
  statusDiv := 3
  cntW := 16

/-- FREE VALUE (log entry 2), safe: which agent the environment lets act at the n-th free input. Nothing
constrains it: the model accepts any sequence of events (spec/60_exceptions.md R184, U4). -/
opaque Config.freeAgent : Nat → Agent

/-- FREE VALUE (log entry 2), safe: the level of `btn_n` at the n-th free input, "a free input (a draw) of
the operation, under no law" (spec/20_memory.md R64, U3). -/
opaque Config.freeLevel : Nat → Level

end Sys2Proof
end

