-- ==== Sys2Proof/Syntax.lean ====
section
/-!
DEFINITION. The nineteen atomic operations of the block, one constructor per row of
spec/opcode_table.json, in the table's order (spec/30_encoding.md R88).
-/

namespace Sys2Proof

/-- The operations. There are no immediates and no operand fields: every operation's operands are the
registers named in its rule (spec/30_encoding.md R87). -/
inductive Instr where
  /-- `TOV`: timer-overflow handler (spec/40_tick_source.md R100). -/
  | tov
  /-- `PCI`: pin-change handler (spec/41_button_debouncer.md R113). -/
  | pci
  /-- `START`: observe the tick (spec/44_dispatcher.md R171). -/
  | start
  /-- `DB_IDLE`: debouncer pass in `Unknown` (spec/41_button_debouncer.md R114). -/
  | dbIdle
  /-- `DB_ARM`: `Triggered` to `Debouncing` (spec/41_button_debouncer.md R115). -/
  | dbArm
  /-- `DB_RUN`: one tick of the debounce window (spec/41_button_debouncer.md R116). -/
  | dbRun
  /-- `DB_COMMIT`: `Debounced` to `Unknown` (spec/41_button_debouncer.md R118). -/
  | dbCommit
  /-- `M_OFF`: mode Off (spec/42_mode_scheduler.md R131). -/
  | mOff
  /-- `M_MAX`: mode Max (spec/42_mode_scheduler.md R133). -/
  | mMax
  /-- `M_BLINK`: mode Blink (spec/42_mode_scheduler.md R134). -/
  | mBlink
  /-- `PD_CLK`: disable the PWM timer clock (spec/43_power_controller.md R151). -/
  | pdClk
  /-- `PD_DRV`: disable the duty-cycle pin driver (spec/43_power_controller.md R152). -/
  | pdDrv
  /-- `PD_LED`: turn off the status indicator (spec/43_power_controller.md R153). -/
  | pdLed
  /-- `SLEEP`: enter the deep-sleep state (spec/43_power_controller.md R154). -/
  | sleep
  /-- `POLL`: sample the raw pin level after a wake (spec/43_power_controller.md R157). -/
  | poll
  /-- `PU_DRV`: re-enable the pin driver (spec/43_power_controller.md R158). -/
  | puDrv
  /-- `PU_CLK`: re-enable the PWM timer clock (spec/43_power_controller.md R159). -/
  | puClk
  /-- `STAT`: status-indicator divider (spec/44_dispatcher.md R174). -/
  | stat
  /-- `CLR`: clear the tick (spec/44_dispatcher.md R176). -/
  | clr
deriving DecidableEq, Repr

end Sys2Proof
end

