-- ==== Sys2Proof/WellFormed.lean ====
section
/-!
DEFINITION. The checks on data that comes from outside the block: a configuration (spec/00_scope.md R8) and
an operation (spec/30_encoding.md R87).
-/

namespace Sys2Proof

/-- Does `x` fit a counter of `CNT_W` bits (the constraint P12)? -/
def Config.fits (c : Config) (x : Nat) : Bool := decide (x < 2 ^ c.cntW)

/-- The constraint P12: every constant that is loaded into, or compared with, a counter fits `CNT_W` bits. -/
def Config.cntWide (c : Config) : Bool :=
  c.fits c.tickDiv && c.fits c.pressTimeout && c.fits c.releaseTimeout && c.fits c.blinkDelay &&
    c.fits c.effectLen && c.fits c.statusDiv && c.effect.all c.fits && c.fits c.maxModeDuty

/-- The constraints P1 to P12 of spec/00_scope.md R8. P2, P3, P6, P7 and P10 allow every natural number, up
to P12; an effect entry at or above `MAX_DUTY` is not checked. -/
def Config.wf (c : Config) : Bool :=
  decide (1 ≤ c.tickDiv) && decide (1 ≤ c.effectLen) && decide (c.effect.length = c.effectLen) &&
    decide (1 ≤ c.maxDuty) && decide (c.maxDuty ≤ 2 ^ c.dutyW) && decide (1 ≤ c.dutyW) &&
    decide (1 ≤ c.statusDiv) && c.cntWide

/-- An operation has no operand field (spec/30_encoding.md R87), so nothing in one can be ill-formed. -/
def Instr.wf (_ : Instr) : Bool := true

end Sys2Proof
end

