-- ==== Sys2Proof/Decode.lean ====
section
/-!
DEFINITION. The codes of the enumerations (spec/30_encoding.md R82 to R85), the selector word `SEL` (R87),
the decoder (R88, R91), and the encoder over the rows of the operation map (R88).
-/

namespace Sys2Proof

/-! ### Codes of the enumerations -/

/-- The codes of `BSTATE` (spec/30_encoding.md R82). -/
def BState.code : BState → BitVec 2
  | .unknown => 0b00#2
  | .triggered => 0b01#2
  | .debouncing => 0b10#2
  | .debounced => 0b11#2

/-- The value of `BSTATE` with a given code (spec/30_encoding.md R82: all four are legal). -/
def BState.ofCode (c : BitVec 2) : BState :=
  match c.toNat with
  | 0 => .unknown
  | 1 => .triggered
  | 2 => .debouncing
  | _ => .debounced

/-- The codes of `BPOS` (spec/30_encoding.md R83). -/
def BPos.code : BPos → BitVec 1
  | .released => 0#1
  | .pressed => 1#1

/-- The codes of the level of `btn_n`: the line is active-low (spec/30_encoding.md R83). -/
def Level.code : Level → BitVec 1
  | .low => 0#1
  | .high => 1#1

/-- The codes of `MODE`, 0b11 reserved (spec/30_encoding.md R84). -/
def Mode.code : Mode → BitVec 2
  | .off => 0b00#2
  | .max => 0b01#2
  | .blink => 0b10#2
  | .reserved => 0b11#2

/-- The value of `MODE` with a given code (spec/30_encoding.md R84). -/
def Mode.ofCode (c : BitVec 2) : Mode :=
  match c.toNat with
  | 0 => .off
  | 1 => .max
  | 2 => .blink
  | _ => .reserved

/-- The codes of `DPHASE`, 13 to 15 reserved (spec/30_encoding.md R85). -/
def Phase.code : Phase → BitVec 4
  | .wait => 0#4
  | .debounce => 1#4
  | .mode => 2#4
  | .pdClk => 3#4
  | .pdDrv => 4#4
  | .pdLed => 5#4
  | .sleep => 6#4
  | .asleep => 7#4
  | .poll => 8#4
  | .puDrv => 9#4
  | .puClk => 10#4
  | .status => 11#4
  | .clear => 12#4
  | .reserved13 => 13#4
  | .reserved14 => 14#4
  | .reserved15 => 15#4

/-- The value of `DPHASE` with a given code (spec/30_encoding.md R85). -/
def Phase.ofCode (c : BitVec 4) : Phase :=
  match c.toNat with
  | 0 => .wait
  | 1 => .debounce
  | 2 => .mode
  | 3 => .pdClk
  | 4 => .pdDrv
  | 5 => .pdLed
  | 6 => .sleep
  | 7 => .asleep
  | 8 => .poll
  | 9 => .puDrv
  | 10 => .puClk
  | 11 => .status
  | 12 => .clear
  | 13 => .reserved13
  | 14 => .reserved14
  | _ => .reserved15

/-- The codes of the field `SRC` (spec/30_encoding.md R87). -/
def Source.code : Source → BitVec 2
  | .dispatcher => 0b00#2
  | .tov => 0b01#2
  | .pc => 0b10#2
  | .reserved => 0b11#2

/-- The value of `SRC` with a given code (spec/30_encoding.md R87, R91). -/
def Source.ofCode (c : BitVec 2) : Source :=
  match c.toNat with
  | 0 => .dispatcher
  | 1 => .tov
  | 2 => .pc
  | _ => .reserved

/-- The event or step by which an agent acts (spec/30_encoding.md R87, R89). -/
def Agent.source : Agent → Source
  | .dispatcher => .dispatcher
  | .tovHandler => .tov
  | .pcHandler => .pc

/-! ### The selector word -/

/-- `SEL = {SRC, DPHASE, BSTATE, MODE}` (spec/30_encoding.md R87). -/
def Sel.make (src : Source) (ph : Phase) (bs : BState) (md : Mode) : Sel :=
  src.code ++ ph.code ++ bs.code ++ md.code

/-- Bits 9:8, the field `SRC` (spec/30_encoding.md R87). -/
def Sel.src (w : Sel) : Source := Source.ofCode (w.extractLsb' 8 2)

/-- Bits 7:4, the field `PH` (spec/30_encoding.md R87). -/
def Sel.ph (w : Sel) : Phase := Phase.ofCode (w.extractLsb' 4 4)

/-- Bits 3:2, the field `BS` (spec/30_encoding.md R87). -/
def Sel.bs (w : Sel) : BState := BState.ofCode (w.extractLsb' 2 2)

/-- Bits 1:0, the field `MD` (spec/30_encoding.md R87). -/
def Sel.md (w : Sel) : Mode := Mode.ofCode (w.extractLsb' 0 2)

/-! ### The decoder -/

/-- Why a selector value selects no operation (the table of spec/30_encoding.md R91). -/
inductive DecodeError where
  /-- `SRC` = 11: no such event source. -/
  | reservedSource
  /-- `SRC` = 00, `PH` = 2, `MD` = 11: reserved `MODE` code. -/
  | reservedMode
  /-- `SRC` = 00, `PH` = 13, 14 or 15: reserved `DPHASE` code. -/
  | reservedPhase
  /-- `SRC` = 00, `PH` = 7: the dispatcher holds, asleep. Not a fault. -/
  | asleepHold
deriving DecidableEq, Repr

/-- The debounce operation that `BSTATE` selects in phase `P_DEBOUNCE` (spec/45_common_laws.md R245). -/
def decodeDebounce : BState → Instr
  | .unknown => .dbIdle
  | .triggered => .dbArm
  | .debouncing => .dbRun
  | .debounced => .dbCommit

/-- The mode operation that `MODE` selects in phase `P_MODE` (spec/45_common_laws.md R245); code 3 is
reserved (spec/30_encoding.md R91). -/
def decodeMode : Mode → Except DecodeError Instr
  | .off => .ok .mOff
  | .max => .ok .mMax
  | .blink => .ok .mBlink
  | .reserved => .error .reservedMode

/-- The dispatcher operation selected by `PH`, `BS` and `MD` (spec/30_encoding.md R88, rows with
`SRC` = 00). -/
def decodeDispatcher (ph : Phase) (bs : BState) (md : Mode) : Except DecodeError Instr :=
  match ph with
  | .wait => .ok .start
  | .debounce => .ok (decodeDebounce bs)
  | .mode => decodeMode md
  | .pdClk => .ok .pdClk
  | .pdDrv => .ok .pdDrv
  | .pdLed => .ok .pdLed
  | .sleep => .ok .sleep
  | .asleep => .error .asleepHold
  | .poll => .ok .poll
  | .puDrv => .ok .puDrv
  | .puClk => .ok .puClk
  | .status => .ok .stat
  | .clear => .ok .clr
  | .reserved13 | .reserved14 | .reserved15 => .error .reservedPhase

/-- The operation selected by the four fields. The two event rows do not examine `PH`, `BS` or `MD`
(spec/30_encoding.md R88, R91). -/
def decodeFields (src : Source) (ph : Phase) (bs : BState) (md : Mode) : Except DecodeError Instr :=
  match src with
  | .tov => .ok .tov
  | .pc => .ok .pci
  | .reserved => .error .reservedSource
  | .dispatcher => decodeDispatcher ph bs md

/-- The decoder: total on every selector word, rejecting by name (spec/30_encoding.md R88, R91). The extra
condition of `START` is no part of `SEL` and is checked where an operation is selected (Machine/Ops.lean). -/
def decode (w : Sel) : Except DecodeError Instr :=
  decodeFields w.src w.ph w.bs w.md

/-! ### The encoder -/

/-- A row of the operation map (spec/30_encoding.md R88): selected when `SEL and mask = bits`. -/
structure OpRow where
  mnemonic : String
  bits : Sel
  mask : Sel
deriving DecidableEq, Repr

/-- The operation map of spec/30_encoding.md R88, row by row. -/
def Instr.row : Instr → OpRow
  | .tov => ⟨"TOV", 0x100#10, 0x300#10⟩
  | .pci => ⟨"PCI", 0x200#10, 0x300#10⟩
  | .start => ⟨"START", 0x000#10, 0x3F0#10⟩
  | .dbIdle => ⟨"DB_IDLE", 0x010#10, 0x3FC#10⟩
  | .dbArm => ⟨"DB_ARM", 0x014#10, 0x3FC#10⟩
  | .dbRun => ⟨"DB_RUN", 0x018#10, 0x3FC#10⟩
  | .dbCommit => ⟨"DB_COMMIT", 0x01C#10, 0x3FC#10⟩
  | .mOff => ⟨"M_OFF", 0x020#10, 0x3F3#10⟩
  | .mMax => ⟨"M_MAX", 0x021#10, 0x3F3#10⟩
  | .mBlink => ⟨"M_BLINK", 0x022#10, 0x3F3#10⟩
  | .pdClk => ⟨"PD_CLK", 0x030#10, 0x3F0#10⟩
  | .pdDrv => ⟨"PD_DRV", 0x040#10, 0x3F0#10⟩
  | .pdLed => ⟨"PD_LED", 0x050#10, 0x3F0#10⟩
  | .sleep => ⟨"SLEEP", 0x060#10, 0x3F0#10⟩
  | .poll => ⟨"POLL", 0x080#10, 0x3F0#10⟩
  | .puDrv => ⟨"PU_DRV", 0x090#10, 0x3F0#10⟩
  | .puClk => ⟨"PU_CLK", 0x0A0#10, 0x3F0#10⟩
  | .stat => ⟨"STAT", 0x0B0#10, 0x3F0#10⟩
  | .clr => ⟨"CLR", 0x0C0#10, 0x3F0#10⟩

/-- The mnemonic of an operation, as spec/opcode_table.json spells it. -/
def Instr.mnemonic (i : Instr) : String := i.row.mnemonic

/-- Does a selector word match the row of an operation (spec/30_encoding.md R88)? -/
def Instr.matches (i : Instr) (w : Sel) : Bool := w &&& i.row.mask == i.row.bits

/-- The selector word of an operation with every field that its row does not examine taken from `rest`
(spec/30_encoding.md R88: a `-` in a field means the field is not examined). -/
def encodeWith (i : Instr) (rest : Sel) : Sel := i.row.bits ||| (rest &&& ~~~i.row.mask)

/-- The selector word of an operation with every unexamined field 0: the row's match value. -/
def encode (i : Instr) : Sel := encodeWith i 0

/-- The agent that performs an operation (spec/00_scope.md R6, the column "agent" of
spec/opcode_table.json). -/
def Instr.agent : Instr → Agent
  | .tov => .tovHandler
  | .pci => .pcHandler
  | .start | .dbIdle | .dbArm | .dbRun | .dbCommit | .mOff | .mMax | .mBlink | .pdClk | .pdDrv | .pdLed
  | .sleep | .poll | .puDrv | .puClk | .stat | .clr => .dispatcher

/-! ### The table's numbering -/

/-- The selector word held by a number of `nbits` bits, if it has no bit above bit 9: `SEL` has one width and
one layout (spec/30_encoding.md R93). DESIGN CHOICE (log entry 11), safe: a wider number is no selector. -/
def selOfNat (nbits w : Nat) : Option Sel :=
  let v := w % 2 ^ nbits
  if v < 1024 then some (BitVec.ofNat 10 v) else none

/-- The operation the decoder reads from a word numbered as spec/opcode_table.json numbers it: bit 0 is the
least significant bit of `SEL` (spec/00_scope.md R10). -/
def decodeTableWord (nbits w : Nat) : Option Instr :=
  match selOfNat nbits w with
  | none => none
  | some sel =>
    match decode sel with
    | .ok i => some i
    | .error _ => none

end Sys2Proof
end

