-- ==== Sys2Proof/Machine/State.lean ====
section
/-!
DEFINITION. The state of the block: the seventeen registers of spec/10_state.md R20, with the configuration
(spec/00_scope.md R8) and the environment's inputs (spec/30_encoding.md R89, spec/20_memory.md R64) as the
model's own fields; the outcomes of a step; reset (spec/10_state.md R50).
-/

namespace Sys2Proof.Machine

/-- What the environment supplies for one step: who acts (spec/30_encoding.md R89) and the level of `btn_n`
at that moment (spec/20_memory.md R64). The level is there for every step; only `DB_RUN` and `POLL` look at
it (DEDUCED, log entry 20, safe). -/
structure Input where
  /-- who acts: a `tov` event, a `pc` event, or a dispatcher step -/
  src : Source
  /-- the level of `btn_n` during the operation -/
  btnN : Level
deriving DecidableEq, Repr

/-- The environment: the inputs it has already fixed, in order, and how many free inputs were drawn after the
script ran out (DESIGN CHOICE, log entry 2, safe). No part of the block. -/
structure Env where
  /-- the inputs already fixed, the next one first -/
  script : List Input
  /-- how many free inputs have been drawn -/
  draws : Nat
deriving DecidableEq, Repr

/-- The state of the block. The counters are natural numbers: under P12 no counter ever wraps and "a model may
represent it as one" (spec/45_common_laws.md R241; log entry 9). One-bit registers are Booleans, true for 1
(log entry 15). -/
structure State where
  /-- MODEL FIELD: the configuration, fixed for the life of the machine (spec/00_scope.md R3; log entry 1). -/
  cfg : Config
  /-- MODEL FIELD: the environment's inputs (log entry 2). -/
  env : Env
  /-- `SUBDIV`, the tick sub-divider counter (spec/10_state.md R21). -/
  subdiv : Nat
  /-- `TICKFLAG`, the one status flag (spec/10_state.md R22). -/
  tickflag : Bool
  /-- `BSTATE`, the debounce state (spec/10_state.md R23). -/
  bstate : BState
  /-- `BPOS`, the committed button position (spec/10_state.md R24). -/
  bpos : BPos
  /-- `COUNTDOWN`, what is left of the debounce window (spec/10_state.md R25). -/
  countdown : Nat
  /-- `GOOD`, the consistent samples still needed (spec/10_state.md R26). -/
  good : Nat
  /-- `MODE`, the lighting mode (spec/10_state.md R27). -/
  mode : Mode
  /-- `MDELAY`, the scheduler's countdown delay (spec/10_state.md R28). -/
  mdelay : Nat
  /-- `EIDX`, the effect index (spec/10_state.md R29). -/
  eidx : Nat
  /-- `ECOUNT`, the effect count, never written (spec/10_state.md R30). -/
  ecount : Nat
  /-- `LASTDUTY`, the last computed duty value, before truncation (spec/10_state.md R31). -/
  lastduty : Nat
  /-- `STATCNT`, the divider of the status indicator (spec/10_state.md R32). -/
  statcnt : Nat
  /-- `DPHASE`, the dispatcher phase (spec/10_state.md R35). -/
  dphase : Phase
  /-- `OCR`, the PWM compare register (spec/10_state.md R40). -/
  ocr : Nat
  /-- `PWMCLK_EN`, 1 while the PWM timer clock runs (spec/10_state.md R41). -/
  pwmclkEn : Bool
  /-- `OUT_EN`, 1 while the duty-cycle pin is driven (spec/10_state.md R42). -/
  outEn : Bool
  /-- `STATUS`, the auxiliary status indicator (spec/10_state.md R43). -/
  status : Bool
deriving DecidableEq, Repr

/-- Why the machine stops with a fault: never. The block "raises no synchronous exception, has no cause codes
and records no faulting value" (spec/60_exceptions.md R180), so the type has no constructor (log entry 12,
safe). -/
inductive Fault where
deriving DecidableEq, Repr

/-- Why the model gives a state, a configuration or an operation no meaning. -/
inductive Refusal where
  /-- Raised by `exec` alone, for an operation without a meaning; no arm raises it. Safe. -/
  | notModelled (mnemonic : String)
  /-- Raised by `stateRefusal`: the configuration violates a constraint of spec/00_scope.md R8; "a model refuses it"
  (spec/45_common_laws.md R241, U2). Safe. -/
  | badConfiguration
  /-- Raised by `stateRefusal` for a state with the reserved `MODE` code, and by `select` for a selector value
  with it: "refuse" (spec/30_encoding.md R91, U11). Safe. -/
  | reservedModeCode
  /-- Raised by `stateRefusal` for a state with a reserved `DPHASE` code, and by `select` for a selector value
  with it: "refuse" (spec/30_encoding.md R91, U12). Safe. -/
  | reservedPhaseCode
  /-- Raised by `stateRefusal`: a counter or `OCR` lies outside its legal values or its width; "a model refuses such a
  start state" (spec/60_exceptions.md R182, U14; log entry 7). Safe. -/
  | registerOutOfRange
  /-- Raised by `select`: `SRC` = 11, "no such event source" (spec/30_encoding.md R91, U13). Safe. -/
  | reservedSource
  /-- Raised by `perform`: the operation's enabling condition is false, and "an operation whose enabling
  condition is false cannot occur" (spec/00_scope.md R12; log entry 5). Safe. -/
  | notEnabled (mnemonic : String)
  /-- Raised by `M_BLINK`: `TblRead(i)` with `i >= EFFECT_LEN`, which has no meaning (spec/20_memory.md R61).
  No admitted state reaches it. Safe. -/
  | tableIndexOutOfRange
deriving DecidableEq, Repr

/-- The outcome of an operation or a step. -/
abbrev Result := Host.Outcome State Fault Refusal

/-! ### Register writes: the pseudocode's `REG <- v` (spec/00_scope.md R11) -/

/-- `SUBDIV <- v`. -/
def State.setSubdiv (s : State) (v : Nat) : State := { s with subdiv := v }

/-- `TICKFLAG <- v`. -/
def State.setTickflag (s : State) (v : Bool) : State := { s with tickflag := v }

/-- `BSTATE <- v`. -/
def State.setBstate (s : State) (v : BState) : State := { s with bstate := v }

/-- `BPOS <- v`. -/
def State.setBpos (s : State) (v : BPos) : State := { s with bpos := v }

/-- `COUNTDOWN <- v`. -/
def State.setCountdown (s : State) (v : Nat) : State := { s with countdown := v }

/-- `GOOD <- v`. -/
def State.setGood (s : State) (v : Nat) : State := { s with good := v }

/-- `MODE <- v`. -/
def State.setMode (s : State) (v : Mode) : State := { s with mode := v }

/-- `MDELAY <- v`. -/
def State.setMdelay (s : State) (v : Nat) : State := { s with mdelay := v }

/-- `EIDX <- v`. -/
def State.setEidx (s : State) (v : Nat) : State := { s with eidx := v }

/-- `LASTDUTY <- v`. -/
def State.setLastduty (s : State) (v : Nat) : State := { s with lastduty := v }

/-- `STATCNT <- v`. -/
def State.setStatcnt (s : State) (v : Nat) : State := { s with statcnt := v }

/-- `DPHASE <- v`. -/
def State.setDphase (s : State) (v : Phase) : State := { s with dphase := v }

/-- `OCR <- v`. -/
def State.setOcr (s : State) (v : Nat) : State := { s with ocr := v }

/-- `PWMCLK_EN <- v`. -/
def State.setPwmclkEn (s : State) (v : Bool) : State := { s with pwmclkEn := v }

/-- `OUT_EN <- v`. -/
def State.setOutEn (s : State) (v : Bool) : State := { s with outEn := v }

/-- `STATUS <- v`. -/
def State.setStatus (s : State) (v : Bool) : State := { s with status := v }

/-- Replace the environment's inputs; no register changes. -/
def State.setEnv (s : State) (e : Env) : State := { s with env := e }

/-! ### Reset -/

/-- The block right after reset, in configuration `c`: the table of spec/10_state.md R50 (also
spec/70_reset_and_hazards.md R210). The environment has fixed no input yet (DESIGN CHOICE, log entry 19). -/
def State.resetWith (c : Config) : State where
  cfg := c
  env := { script := [], draws := 0 }
  subdiv := 0
  tickflag := false
  bstate := .unknown
  bpos := .released
  countdown := 0
  good := 0
  mode := .off
  mdelay := 0
  eidx := 0
  ecount := c.effectLen
  lastduty := 0
  statcnt := 0
  dphase := .wait
  ocr := 0
  pwmclkEn := true
  outEn := true
  status := false

/-- The machine after reset. DESIGN CHOICE (log entry 1), unsafe: the spec gives no build's constants, and the
configuration is the spec's reference configuration `REF`. -/
def State.reset : State := State.resetWith Config.ref

end Sys2Proof.Machine
end

