-- ==== Sys2Proof/Machine/Operands.lean ====
section
/-!
DEFINITION. The values operations read and compute: the environment's present input, `PinRead`, `TblRead`,
`target`, `consistent`, and the arithmetic forms of spec/45_common_laws.md R240.
-/

namespace Sys2Proof.Machine

/-! ### The environment's present input -/

/-- The n-th free input: a free choice of agent and a free level (spec/93_implementation_defined.md U3, U4;
log entry 2). The source code 0b11 is never drawn: "cannot be generated" (spec/30_encoding.md R91). -/
def freeInput (n : Nat) : Input := ⟨(Config.freeAgent n).source, Config.freeLevel n⟩

/-- The input of the present step: the first of the script, and when that has run out a free one. -/
def envNow (e : Env) : Input :=
  match e.script with
  | x :: _ => x
  | [] => freeInput e.draws

/-- The environment after the present step. -/
def envNext (e : Env) : Env :=
  match e.script with
  | _ :: rest => { e with script := rest }
  | [] => { e with draws := e.draws + 1 }

/-- `SRC`: who acts in the present step (spec/30_encoding.md R89). -/
def sourceNow (s : State) : Source := (envNow s.env).src

/-- `PinRead()`: the level of `btn_n` at this moment (spec/20_memory.md R64). -/
def pinRead (s : State) : Level := (envNow s.env).btnN

/-! ### The effect table -/

/-- `TblRead(i)`: `EFFECT[i]`, and no value for `i >= EFFECT_LEN` (spec/20_memory.md R61). -/
def tblRead (c : Config) (i : Nat) : Option Nat := if i < c.effectLen then c.effect[i]? else none

/-! ### The debounce target -/

/-- The logical opposite of a button position, the one-bit complement of spec/45_common_laws.md R240. -/
def opposite : BPos → BPos
  | .released => .pressed
  | .pressed => .released

/-- `target()`: "the logical opposite of the last committed ButtonPosition" (spec/41_button_debouncer.md
R111). -/
def target (s : State) : BPos := opposite s.bpos

/-- `consistent(l, t)` (spec/41_button_debouncer.md R112). -/
def consistent : Level → BPos → Bool
  | .low, .pressed => true
  | .high, .released => true
  | .low, .released => false
  | .high, .pressed => false

/-- The timeout of the debounce window for a target (spec/41_button_debouncer.md R115). -/
def timeoutFor (c : Config) : BPos → Nat
  | .pressed => c.pressTimeout
  | .released => c.releaseTimeout

/-! ### Arithmetic (spec/45_common_laws.md R240) -/

/-- "`x + 1` then `= K` test, reset to 0 on equality": the next value of a modulo-K up-counter. -/
def upCount (k x : Nat) : Nat := if x + 1 = k then 0 else x + 1

/-- Does the modulo-K up-counter wrap at this increment? -/
def upWraps (k x : Nat) : Bool := decide (x + 1 = k)

/-- "(`x + 1`) mod `K`". -/
def incMod (k x : Nat) : Nat := (x + 1) % k

/-- "`x div 2`": floor of half. -/
def half (x : Nat) : Nat := x / 2

/-- `trunc_N(v)`, that is `v mod 2^N` (spec/00_scope.md R10). -/
def trunc (n v : Nat) : Nat := v % 2 ^ n

/-- `MODE <- (MODE + 1) mod MODE_COUNT`, computed on the codes (spec/41_button_debouncer.md R118). -/
def modeAdvance (m : Mode) : Mode := Mode.ofCode (BitVec.ofNat 2 (incMod Config.modeCount m.code.toNat))

end Sys2Proof.Machine
end

