-- ==== Sys2Proof/Machine/Flags.lean ====
section
/-!
DEFINITION. `TICKFLAG`, "the only status flag of the block" (spec/10_state.md R22), a single-slot mailbox
(spec/20_memory.md R75): set by `TOV`, read by `START`, cleared by `CLR`. There is no carry or overflow flag
(spec/45_common_laws.md R240).
-/

namespace Sys2Proof.Machine

/-- Set the flag; "setting it when already set changes nothing" (spec/20_memory.md R75). -/
def raiseTick (s : State) : State := s.setTickflag true

/-- Clear the flag: "a plain store of 0" (spec/44_dispatcher.md R176 corner a). -/
def clearTick (s : State) : State := s.setTickflag false

/-- The extra enabling condition of `START`: `TICKFLAG = 1` (spec/44_dispatcher.md R171). -/
def tickPending (s : State) : Bool := s.tickflag

end Sys2Proof.Machine
end

