-- ==== Sys2Proof/Machine/Ops.lean ====
section
/-!
DEFINITION. The operations that the meanings share: which states are admitted, when an operation is enabled,
how an interrupt is taken and how it wakes the block, the writes of the output registers, the delay gate, and
how a step selects its operation.
-/

namespace Sys2Proof.Machine

/-! ### Admitted states -/

/-- The legal ranges of the registers whose violation spec/60_exceptions.md R182 and U14 name, and the widths
of the others (spec/10_state.md R21 to R40). `COUNTDOWN` and `GOOD` above the timeouts are not refused: the
spec's own vector V22 runs such a state (log entry 7). -/
def inRange (s : State) : Bool :=
  decide (s.subdiv < s.cfg.tickDiv) && decide (s.eidx < s.cfg.effectLen) &&
    decide (s.statcnt < s.cfg.statusDiv) && decide (s.mdelay ≤ s.cfg.blinkDelay) &&
    decide (s.ocr < 2 ^ s.cfg.dutyW) && s.cfg.fits s.countdown && s.cfg.fits s.good && s.cfg.fits s.lastduty

/-- Is `DPHASE` one of the codes 13 to 15? -/
def phaseReserved : Phase → Bool
  | .reserved13 | .reserved14 | .reserved15 => true
  | .wait | .debounce | .mode | .pdClk | .pdDrv | .pdLed | .sleep | .asleep | .poll | .puDrv | .puClk
  | .status | .clear => false

/-- Why a state is refused, if it is: a configuration outside R8 (spec/45_common_laws.md R241), a reserved
code (spec/30_encoding.md R91: "refuse the state, not the event"), or a register out of range
(spec/60_exceptions.md R182). -/
def stateRefusal (s : State) : Option Refusal :=
  if s.cfg.wf = false then some .badConfiguration
  else if s.mode = .reserved then some .reservedModeCode
  else if phaseReserved s.dphase = true then some .reservedPhaseCode
  else if inRange s = false then some .registerOutOfRange
  else none

/-! ### Enabled operations -/

/-- The enabling condition of each operation, on the state: the columns `PH`, `BS`, `MD` and "extra condition"
of spec/30_encoding.md R88. `TOV` and `PCI` "are enabled in every state" (R89). -/
def enabled (i : Instr) (s : State) : Bool :=
  match i with
  | .tov => true
  | .pci => true
  | .start => s.dphase == .wait && tickPending s
  | .dbIdle => s.dphase == .debounce && s.bstate == .unknown
  | .dbArm => s.dphase == .debounce && s.bstate == .triggered
  | .dbRun => s.dphase == .debounce && s.bstate == .debouncing
  | .dbCommit => s.dphase == .debounce && s.bstate == .debounced
  | .mOff => s.dphase == .mode && s.mode == .off
  | .mMax => s.dphase == .mode && s.mode == .max
  | .mBlink => s.dphase == .mode && s.mode == .blink
  | .pdClk => s.dphase == .pdClk
  | .pdDrv => s.dphase == .pdDrv
  | .pdLed => s.dphase == .pdLed
  | .sleep => s.dphase == .sleep
  | .poll => s.dphase == .poll
  | .puDrv => s.dphase == .puDrv
  | .puClk => s.dphase == .puClk
  | .stat => s.dphase == .status
  | .clr => s.dphase == .clear

/-- Perform an operation: only in an admitted state, and only when it is enabled, since "an operation whose
enabling condition is false cannot occur" (spec/00_scope.md R12). -/
def perform (i : Instr) (s : State) (body : State → Result) : Result :=
  match stateRefusal s with
  | some r => .refused r
  | none => if enabled i s = true then body s else .refused (.notEnabled i.mnemonic)

/-! ### Taking an interrupt

Taking an interrupt "saves nothing and changes nothing except what the handler's own pseudocode writes"
(spec/60_exceptions.md R188), and there is no return operation (R189). -/

/-- `wake()` (spec/60_exceptions.md R190). -/
def wake (s : State) : State := if s.dphase = .asleep then s.setDphase .poll else s

/-- Take an interrupt: the handler's own effect, then `wake()` as the last action of the same atomic operation
(spec/60_exceptions.md R188, R190). -/
def takeInterrupt (handler : State → State) (s : State) : State := wake (handler s)

/-! ### PulseOutput (spec/42_mode_scheduler.md section 3) -/

/-- `SetLevel(v)`: `OCR <- trunc_DUTY_W(v)` (spec/42_mode_scheduler.md R140). -/
def setLevel (s : State) (v : Nat) : State := s.setOcr (trunc s.cfg.dutyW v)

/-- `OutEnable()` (spec/42_mode_scheduler.md R141). -/
def outEnable (s : State) : State := s.setOutEn true

/-- `OutDisable()` (spec/42_mode_scheduler.md R141). -/
def outDisable (s : State) : State := s.setOutEn false

/-! ### The delay gate -/

/-- The delay gate shared by `M_MAX` and `M_BLINK` (spec/42_mode_scheduler.md R132): on a held tick the delay
is decremented and nothing else is done; otherwise the mode's work. -/
def gate (s : State) (work : State → Result) : Result :=
  if s.mdelay ≠ 0 then .next ((s.setMdelay (s.mdelay - 1)).setDphase .status) else work s

/-! ### Selecting the operation of a step -/

/-- `SEL` of the present step: `SRC` from the environment, the other fields from the state
(spec/30_encoding.md R87, R89). -/
def selNow (s : State) : Sel := Sel.make (sourceNow s) s.dphase s.bstate s.mode

/-- What a step does: one operation, or nothing because the dispatcher holds, or the selector value has no
meaning (spec/30_encoding.md R89, R91). -/
inductive Selection where
  | operation (i : Instr)
  | hold
  | refuse (r : Refusal)
deriving DecidableEq, Repr

/-- The meaning of a selector value that selects no operation (the table of spec/30_encoding.md R91). -/
def selectionOfError : DecodeError → Selection
  | .asleepHold => .hold
  | .reservedSource => .refuse .reservedSource
  | .reservedMode => .refuse .reservedModeCode
  | .reservedPhase => .refuse .reservedPhaseCode

/-- The operation of the present step: "if the resulting `SEL` matches a row and the row's extra condition
holds, that operation occurs" (spec/30_encoding.md R89); with `TICKFLAG = 0` the row `START` is the hold in
`P_WAIT` (R91). -/
def select (s : State) : Selection :=
  match decode (selNow s) with
  | .error e => selectionOfError e
  | .ok i => if i = .start ∧ tickPending s = false then .hold else .operation i

/-- The state after a step's operation, with the environment moved on to its next input. -/
def advanceEnv (s : State) : State := s.setEnv (envNext s.env)

/-- Move the environment on after an operation that gave a next state. -/
def advanceResult (o : Result) : Result :=
  match o with
  | .next s => .next (advanceEnv s)
  | .fault r => .fault r
  | .refused r => .refused r

end Sys2Proof.Machine
end

