-- ==== Sys2Proof/Machine/Debouncer.lean ====
section
/-!
DEFINITION. ButtonDebouncer: the pin-change handler `PCI` and the four operations of phase `P_DEBOUNCE`
(spec/41_button_debouncer.md).
-/

namespace Sys2Proof.Machine

/-- The handler's own effect: `Unknown` to `Triggered`, and nothing otherwise (spec/41_button_debouncer.md
R113). -/
def latchTrigger (s : State) : State := if s.bstate = .unknown then s.setBstate .triggered else s

/-- `PCI` (spec/41_button_debouncer.md R113). -/
def execPci (s : State) : Result := perform .pci s fun s => .next (takeInterrupt latchTrigger s)

/-- `DB_IDLE` (spec/41_button_debouncer.md R114). -/
def execDbIdle (s : State) : Result := perform .dbIdle s fun s => .next (s.setDphase .mode)

/-- Load the window: `COUNTDOWN` with the timeout of the target, `GOOD` with its floor half
(spec/41_button_debouncer.md R115). -/
def loadWindow (s : State) : State :=
  let loaded := s.setCountdown (timeoutFor s.cfg (target s))
  loaded.setGood (half loaded.countdown)

/-- `DB_ARM` (spec/41_button_debouncer.md R115). -/
def execDbArm (s : State) : Result :=
  perform .dbArm s fun s => .next (((loadWindow s).setBstate .debouncing).setDphase .mode)

/-- Take one sample while samples are still needed: a consistent one counts, an inconsistent one changes
nothing (spec/41_button_debouncer.md R116). -/
def takeSample (s : State) : State :=
  if s.good > 0 then if consistent (pinRead s) (target s) = true then s.setGood (s.good - 1) else s else s

/-- One tick of the window: while the countdown runs, decrement it and sample (spec/41_button_debouncer.md
R116). -/
def runWindow (s : State) : State :=
  if s.countdown > 0 then takeSample (s.setCountdown (s.countdown - 1)) else s

/-- At the end of the window accept or abort (spec/41_button_debouncer.md R116). -/
def decideWindow (s : State) : State :=
  if s.countdown = 0 then if s.good = 0 then s.setBstate .debounced else s.setBstate .unknown else s

/-- `DB_RUN` (spec/41_button_debouncer.md R116). -/
def execDbRun (s : State) : Result :=
  perform .dbRun s fun s => .next ((decideWindow (runWindow s)).setDphase .mode)

/-- Commit the target, computed from the old `BPOS`; a press advances the mode (spec/41_button_debouncer.md
R118). -/
def commitTarget (s : State) : State :=
  let committed := s.setBpos (target s)
  if target s = .pressed then committed.setMode (modeAdvance s.mode) else committed

/-- `DB_COMMIT` (spec/41_button_debouncer.md R118). -/
def execDbCommit (s : State) : Result :=
  perform .dbCommit s fun s => .next (((commitTarget s).setBstate .unknown).setDphase .mode)

end Sys2Proof.Machine
end

