-- ==== Sys2Proof/Machine/Pass.lean ====
section
/-!
DEFINITION. Dispatcher: the three operations that frame a pass (spec/44_dispatcher.md).
-/

namespace Sys2Proof.Machine

/-- `START`: enabled only when `TICKFLAG = 1`, which it leaves set (spec/44_dispatcher.md R171). -/
def execStart (s : State) : Result := perform .start s fun s => .next (s.setDphase .debounce)

/-- Count the pass, and at `STATUS_DIV` reset the counter and toggle the indicator (spec/44_dispatcher.md
R174). -/
def countPass (s : State) : State :=
  let counted := s.setStatcnt (upCount s.cfg.statusDiv s.statcnt)
  if upWraps s.cfg.statusDiv s.statcnt = true then counted.setStatus (!s.status) else counted

/-- `STAT` (spec/44_dispatcher.md R174). -/
def execStat (s : State) : Result := perform .stat s fun s => .next ((countPass s).setDphase .clear)

/-- `CLR` (spec/44_dispatcher.md R176). -/
def execClr (s : State) : Result := perform .clr s fun s => .next ((clearTick s).setDphase .wait)

end Sys2Proof.Machine
end

