-- ==== Sys2Proof/Machine/Power.lean ====
section
/-!
DEFINITION. PowerController: shutdown, the sleep loop and the restore (spec/43_power_controller.md).
-/

namespace Sys2Proof.Machine

/-- `PD_CLK` (spec/43_power_controller.md R151). -/
def execPdClk (s : State) : Result :=
  perform .pdClk s fun s => .next ((s.setPwmclkEn false).setDphase .pdDrv)

/-- `PD_DRV` (spec/43_power_controller.md R152). -/
def execPdDrv (s : State) : Result := perform .pdDrv s fun s => .next ((outDisable s).setDphase .pdLed)

/-- `PD_LED` (spec/43_power_controller.md R153). -/
def execPdLed (s : State) : Result := perform .pdLed s fun s => .next ((s.setStatus false).setDphase .sleep)

/-- `SLEEP` (spec/43_power_controller.md R154). -/
def execSleep (s : State) : Result := perform .sleep s fun s => .next (s.setDphase .asleep)

/-- `POLL`: one sample of the raw level decides (spec/43_power_controller.md R157). -/
def execPoll (s : State) : Result :=
  perform .poll s fun s => .next (s.setDphase (if pinRead s = .high then .puDrv else .sleep))

/-- `PU_DRV` (spec/43_power_controller.md R158). -/
def execPuDrv (s : State) : Result := perform .puDrv s fun s => .next ((outEnable s).setDphase .puClk)

/-- `PU_CLK` (spec/43_power_controller.md R159). -/
def execPuClk (s : State) : Result :=
  perform .puClk s fun s => .next ((s.setPwmclkEn true).setDphase .status)

end Sys2Proof.Machine
end

