-- ==== Sys2Proof/Machine/Scheduler.lean ====
section
/-!
DEFINITION. ModeScheduler: the three operations of phase `P_MODE` (spec/42_mode_scheduler.md). The mode test
comes first, then the delay gate, then the work (R130).
-/

namespace Sys2Proof.Machine

/-- `M_OFF`: not gated, no duty output (spec/42_mode_scheduler.md R131). -/
def execMOff (s : State) : Result := perform .mOff s fun s => .next (s.setDphase .pdClk)

/-- The work of mode Max, with the write `MDELAY <- 0` in its place (spec/42_mode_scheduler.md R133). -/
def maxWork (s : State) : State :=
  let set := ((s.setLastduty s.cfg.maxModeDuty).setMdelay 0).setEidx 0
  (setLevel set set.lastduty).setDphase .status

/-- `M_MAX` (spec/42_mode_scheduler.md R133). -/
def execMMax (s : State) : Result := perform .mMax s fun s => gate s fun s => .next (maxWork s)

/-- The work of mode Blink on table entry `e` (spec/42_mode_scheduler.md R134). -/
def blinkWork (s : State) (e : Nat) : State :=
  let set := ((s.setMdelay s.cfg.blinkDelay).setEidx (incMod s.cfg.effectLen s.eidx)).setLastduty e
  (setLevel set e).setDphase .status

/-- A blink step: read the entry at `EIDX` and apply it (spec/42_mode_scheduler.md R134). -/
def blinkStep (s : State) : Result :=
  match tblRead s.cfg s.eidx with
  | some e => .next (blinkWork s e)
  | none => .refused .tableIndexOutOfRange

/-- `M_BLINK` (spec/42_mode_scheduler.md R134). -/
def execMBlink (s : State) : Result := perform .mBlink s fun s => gate s blinkStep

end Sys2Proof.Machine
end

