-- ==== Sys2Proof/Machine/TickSource.lean ====
section
/-!
DEFINITION. TickSource, the tick interrupt divider: the operation `TOV` (spec/40_tick_source.md).
-/

namespace Sys2Proof.Machine

/-- The handler's own effect: count the overflow, and at `TICK_DIV` reset the counter and set `TICKFLAG`
(spec/40_tick_source.md R100). -/
def countOverflow (s : State) : State :=
  let counted := s.setSubdiv (upCount s.cfg.tickDiv s.subdiv)
  if upWraps s.cfg.tickDiv s.subdiv = true then raiseTick counted else counted

/-- `TOV` (spec/40_tick_source.md R100). -/
def execTov (s : State) : Result := perform .tov s fun s => .next (takeInterrupt countOverflow s)

end Sys2Proof.Machine
end

