-- ==== Sys2Proof/Machine/Dispatch.lean ====
section
/-!
DEFINITION. One arm per operation of spec/opcode_table.json, each a direct call of its meaning.
-/

namespace Sys2Proof.Machine

def exec (i : Instr) (s : State) : Host.Outcome State Fault Refusal :=
  match i with
  | .tov => Sys2Proof.Machine.execTov s
  | .pci => Sys2Proof.Machine.execPci s
  | .start => Sys2Proof.Machine.execStart s
  | .dbIdle => Sys2Proof.Machine.execDbIdle s
  | .dbArm => Sys2Proof.Machine.execDbArm s
  | .dbRun => Sys2Proof.Machine.execDbRun s
  | .dbCommit => Sys2Proof.Machine.execDbCommit s
  | .mOff => Sys2Proof.Machine.execMOff s
  | .mMax => Sys2Proof.Machine.execMMax s
  | .mBlink => Sys2Proof.Machine.execMBlink s
  | .pdClk => Sys2Proof.Machine.execPdClk s
  | .pdDrv => Sys2Proof.Machine.execPdDrv s
  | .pdLed => Sys2Proof.Machine.execPdLed s
  | .sleep => Sys2Proof.Machine.execSleep s
  | .poll => Sys2Proof.Machine.execPoll s
  | .puDrv => Sys2Proof.Machine.execPuDrv s
  | .puClk => Sys2Proof.Machine.execPuClk s
  | .stat => Sys2Proof.Machine.execStat s
  | .clr => Sys2Proof.Machine.execClr s

end Sys2Proof.Machine
end

