-- ==== Sys2Proof/Machine/Step.lean ====
section
/-!
DEFINITION. One step of the machine: select the operation that `SEL` and its extra condition select, run it,
and move the environment on to its next input (spec/30_encoding.md R89, spec/20_memory.md R70, R71).
-/

namespace Sys2Proof.Machine

/-- One step. An admitted state either performs the selected operation, or, when the environment picks the
dispatcher while it holds, "changes nothing" (spec/30_encoding.md R95; log entry 4), or refuses `SRC` = 11. -/
def step (s : State) : Host.Outcome State Fault Refusal :=
  match stateRefusal s with
  | some r => .refused r
  | none =>
    match select s with
    | .operation i => advanceResult (exec i s)
    | .hold => .next (advanceEnv s)
    | .refuse r => .refused r

/-- `s` with a selector word placed where the next step looks for it: `SRC` as the environment's next input,
with the line released (the initial `PIN` of spec/30_encoding.md R95), and `PH`, `BS`, `MD` in `DPHASE`,
`BSTATE`, `MODE`. -/
def withSel (s : State) (w : Sel) : State :=
  { s with
    env := { s.env with script := ⟨w.src, .high⟩ :: s.env.script }
    dphase := w.ph
    bstate := w.bs
    mode := w.md
    tickflag := s.tickflag || decide (w.src = .dispatcher ∧ w.ph = .wait) }

/-- `s` with the word `w` stored where `step` takes its next operation from (log entry 3): the fields of `SEL`,
and `TICKFLAG` set for the row `START`, whose extra condition it is. A word wider than `SEL` is placed as an
event with the reserved source, which the next step refuses. -/
def State.withFetchWord (s : State) (nbits w : Nat) : State :=
  match selOfNat nbits w with
  | some sel => withSel s sel
  | none => { s with env := { s.env with script := ⟨.reserved, .high⟩ :: s.env.script } }

end Sys2Proof.Machine
end

