-- ==== Sys2Proof/Machine/Ports.lean ====
section
/-!
DEFINITION. The output ports, the power states and the execution contexts: views of the state and of the
operations that nothing stores (spec/10_state.md R44, spec/60_exceptions.md R192, R198).
-/

namespace Sys2Proof.Machine

/-- The output ports of the block (spec/10_state.md R44). -/
structure OutPorts where
  duty : Nat
  pwmClkEn : Bool
  outEn : Bool
  status : Bool
  sleepReq : Bool
deriving DecidableEq, Repr

/-- "An output port always shows the named register's current value"; `sleep_req` is 1 iff
`DPHASE = P_ASLEEP` (spec/10_state.md R44). -/
def outPorts (s : State) : OutPorts where
  duty := s.ocr
  pwmClkEn := s.pwmclkEn
  outEn := s.outEn
  status := s.status
  sleepReq := s.dphase == .asleep

/-- The two power states (spec/60_exceptions.md R198). -/
inductive PowerState where
  | running
  | asleep
deriving DecidableEq, Repr

/-- Asleep is `DPHASE = P_ASLEEP`; every other phase is running (spec/60_exceptions.md R198). -/
def powerState (s : State) : PowerState := if s.dphase = .asleep then .asleep else .running

/-- The two execution contexts (spec/60_exceptions.md R192, spec/00_scope.md R7). -/
inductive Context where
  | interrupt
  | dispatcher
deriving DecidableEq, Repr

/-- The context an operation runs in: `TOV` and `PCI` in the interrupt context, the other seventeen in the
dispatcher context (spec/60_exceptions.md R192). -/
def contextOf (i : Instr) : Context :=
  match i.agent with
  | .tovHandler => .interrupt
  | .pcHandler => .interrupt
  | .dispatcher => .dispatcher

end Sys2Proof.Machine
end

