-- ==== Sys2Proof/Machine/Stimulus.lean ====
section
/-!
DEFINITION. The stimulus language, "the assembler of this block" (spec/30_encoding.md R95 to R97): scripts of
tokens run on the machine by a test bench whose variable `PIN` answers every `PinRead()`.
-/

namespace Sys2Proof.Machine

/-- The tokens and pseudo-tokens (spec/30_encoding.md R95, R96). -/
inductive Token where
  /-- one `tov` event -/
  | tov
  /-- one `pc` event -/
  | pc
  /-- one dispatcher step -/
  | step
  /-- set `PIN`; no operation of the block -/
  | pin (l : Level)
  /-- `tov` repeated `TICK_DIV` times -/
  | tick
  /-- `step` repeated until the pass ends or the dispatcher holds -/
  | pass
  /-- `pin 0; pc` -/
  | press
  /-- `pin 1; pc` -/
  | release
  /-- (`tick; pass`) repeated `n` times -/
  | run (n : Nat)
deriving DecidableEq, Repr

/-- A line of the trace: the operation, or `none` for the mark `HOLD`, its `SEL`, and the state after it
(spec/30_encoding.md R97). -/
structure TraceLine where
  op : Option Instr
  sel : Sel
  after : State
deriving DecidableEq, Repr

/-- The test bench: `PIN`, the block, and the trace so far. -/
structure Bench where
  pin : Level
  block : State
  trace : List TraceLine
deriving DecidableEq, Repr

/-- What a token gives: the bench after it, or the machine's refusal. -/
abbrev BenchResult := Host.Outcome Bench Fault Refusal

/-- Continue with the bench a token gave. -/
def benchThen (o : BenchResult) (f : Bench → BenchResult) : BenchResult :=
  match o with
  | .next b => f b
  | .fault r => .fault r
  | .refused r => .refused r

/-- `PIN` is initially 1, released (spec/30_encoding.md R95). -/
def benchOf (s : State) : Bench := { pin := .high, block := s, trace := [] }

/-- The block with the bench's next input placed before it: the source and the present `PIN`. -/
def offer (src : Source) (b : Bench) : State :=
  { b.block with env := { b.block.env with script := [⟨src, b.pin⟩] } }

/-- The trace mark of a step: the operation, or `HOLD` (spec/30_encoding.md R95). -/
def stepMark (s : State) : Option Instr :=
  match select s with
  | .operation i => some i
  | .hold => none
  | .refuse _ => none

/-- One primitive event or dispatcher step on the bench (spec/30_encoding.md R95). -/
def act (src : Source) (b : Bench) : BenchResult :=
  let s := offer src b
  match step s with
  | .next t => .next { b with block := t, trace := b.trace ++ [⟨stepMark s, selNow s, t⟩] }
  | .fault r => .fault r
  | .refused r => .refused r

/-- Repeat a token's action `n` times. -/
def repeatAct (f : Bench → BenchResult) : Nat → Bench → BenchResult
  | 0, b => .next b
  | n + 1, b => benchThen (f b) (repeatAct f n)

/-- Does the dispatcher hold (spec/30_encoding.md R91)? -/
def dispatcherHolds (s : State) : Bool := s.dphase == .asleep || (s.dphase == .wait && !s.tickflag)

/-- `pass` with a bound on the number of steps: "`step` repeated until `DPHASE = P_WAIT` after a `CLR`, or
until the dispatcher holds; does nothing if it holds at the start" (spec/30_encoding.md R96). -/
def passWithin : Nat → Bench → BenchResult
  | 0, b => .next b
  | n + 1, b =>
    if dispatcherHolds b.block = true then .next b
    else benchThen (act .dispatcher b) fun b' =>
      if b'.block.dphase = .wait then .next b' else passWithin n b'

/-- The bound of `pass`: without an event the dispatcher ends its pass or holds after fewer operations than
this (spec/44_dispatcher.md R179; log entry 13). -/
def passBound : Nat := 16

/-- The meaning of a token (spec/30_encoding.md R95, R96). -/
def runToken (t : Token) (b : Bench) : BenchResult :=
  match t with
  | .tov => act .tov b
  | .pc => act .pc b
  | .step => act .dispatcher b
  | .pin l => .next { b with pin := l }
  | .tick => repeatAct (act .tov) b.block.cfg.tickDiv b
  | .pass => passWithin passBound b
  | .press => act .pc { b with pin := .low }
  | .release => act .pc { b with pin := .high }
  | .run n =>
    repeatAct (fun b => benchThen (repeatAct (act .tov) b.block.cfg.tickDiv b) (passWithin passBound)) n b

/-- A script, token by token (spec/30_encoding.md R95). -/
def runScript : List Token → Bench → BenchResult
  | [], b => .next b
  | t :: ts, b => benchThen (runToken t b) (runScript ts)

/-- The "encoding" of a program: the `SEL` values of its trace (spec/30_encoding.md R97). -/
def encodingOf (b : Bench) : List Sel := b.trace.map TraceLine.sel

/-- A hexadecimal digit. -/
def hexDigit (n : Nat) : Char := if n < 10 then Char.ofNat (48 + n) else Char.ofNat (55 + n)

/-- A selector value in hexadecimal, printed as spec/95_test_vectors.md prints it (spec/30_encoding.md R97). -/
def selHex (w : Sel) : String :=
  String.ofList ['0', 'x', hexDigit (w.toNat / 256), hexDigit (w.toNat / 16 % 16), hexDigit (w.toNat % 16)]

/-- A one-bit register in a trace line. -/
def bitText (b : Bool) : String := if b = true then "1" else "0"

/-- The name of a `BSTATE` value (spec/30_encoding.md R82). -/
def bstateText : BState → String
  | .unknown => "Unknown"
  | .triggered => "Triggered"
  | .debouncing => "Debouncing"
  | .debounced => "Debounced"

/-- The name of a `BPOS` value (spec/30_encoding.md R83). -/
def bposText : BPos → String
  | .released => "Released"
  | .pressed => "Pressed"

/-- The name of a `MODE` value (spec/30_encoding.md R84). The reserved code has no name; no trace has it (log
entry 13). -/
def modeText : Mode → String
  | .off => "Off"
  | .max => "Max"
  | .blink => "Blink"
  | .reserved => "reserved 3"

/-- The name of a `DPHASE` value (spec/30_encoding.md R85). The reserved codes have no name; no trace has them
(log entry 13). -/
def phaseText : Phase → String
  | .wait => "P_WAIT"
  | .debounce => "P_DEBOUNCE"
  | .mode => "P_MODE"
  | .pdClk => "P_PD_CLK"
  | .pdDrv => "P_PD_DRV"
  | .pdLed => "P_PD_LED"
  | .sleep => "P_SLEEP"
  | .asleep => "P_ASLEEP"
  | .poll => "P_POLL"
  | .puDrv => "P_PU_DRV"
  | .puClk => "P_PU_CLK"
  | .status => "P_STATUS"
  | .clear => "P_CLEAR"
  | .reserved13 => "reserved 13"
  | .reserved14 => "reserved 14"
  | .reserved15 => "reserved 15"

/-- The registers in the order in which spec/95_test_vectors.md lists a state, each with its value in text;
`ECOUNT` "is the constant `EFFECT_LEN` and is not printed". -/
def registerColumns (s : State) : List (String × String) :=
  [("DPHASE", phaseText s.dphase), ("TICKFLAG", bitText s.tickflag), ("SUBDIV", toString s.subdiv),
    ("BSTATE", bstateText s.bstate), ("BPOS", bposText s.bpos), ("COUNTDOWN", toString s.countdown),
    ("GOOD", toString s.good), ("MODE", modeText s.mode), ("MDELAY", toString s.mdelay),
    ("EIDX", toString s.eidx), ("LASTDUTY", toString s.lastduty), ("OCR", toString s.ocr),
    ("PWMCLK_EN", bitText s.pwmclkEn), ("OUT_EN", bitText s.outEn), ("STATUS", bitText s.status),
    ("STATCNT", toString s.statcnt)]

/-- The column `<registers after the operation>` of a trace line (spec/30_encoding.md R97). -/
def registersText (s : State) : String :=
  String.intercalate ", " ((registerColumns s).map fun column => column.1 ++ " = " ++ column.2)

/-- The `n`-th trace line: `<n> <mnemonic> <SEL in hex> <registers after the operation>`
(spec/30_encoding.md R97). -/
def traceText (n : Nat) (l : TraceLine) : String :=
  toString n ++ " " ++ (match l.op with
    | some i => i.mnemonic
    | none => "HOLD") ++ " " ++ selHex l.sel ++ " " ++ registersText l.after

/-- The trace of a program, line by line, numbered from 1 (spec/30_encoding.md R97). -/
def traceLines (b : Bench) : List String := b.trace.zipIdx.map fun numbered => traceText (numbered.2 + 1) numbered.1

end Sys2Proof.Machine
end

