-- ==== Sys2Proof/Safety.lean ====
section
/-!
DEFINITION. What counts as a good state and a good run, in the terms the claims use: the invariants of
spec/10_state.md R56 and of the power sequence, the premises E1, E2 and weak fairness, and the iterated
operations that the laws of the families speak of.
-/

namespace Sys2Proof.Machine

/-! ### Invariants -/

/-- The longer of the two debounce timeouts (spec/10_state.md R25). -/
def maxTimeout (c : Config) : Nat := max c.pressTimeout c.releaseTimeout

/-- The invariant of the reachable states (spec/10_state.md R56, with R26 and R30). -/
structure ReachableInv (s : State) : Prop where
  /-- the configuration is one of R8, the codes are legal, `SUBDIV`, `EIDX`, `STATCNT`, `MDELAY` and `OCR`
  are in their ranges -/
  admitted : stateRefusal s = none
  /-- `ECOUNT` "always equals `EFFECT_LEN`" (R30) -/
  ecount_eq : s.ecount = s.cfg.effectLen
  /-- `COUNTDOWN <= max(PRESS_TIMEOUT, RELEASE_TIMEOUT)` -/
  countdown_le : s.countdown ≤ maxTimeout s.cfg
  /-- `GOOD <= max(PRESS_TIMEOUT, RELEASE_TIMEOUT) div 2` -/
  good_le : s.good ≤ maxTimeout s.cfg / 2
  /-- while debouncing the countdown runs, or no `DB_RUN` has run since a `DB_ARM` with timeout 0 -/
  debouncing_runs : s.bstate = .debouncing →
    0 < s.countdown ∨ (timeoutFor s.cfg (target s) = 0 ∧ s.good = 0)
  /-- within a cycle both halves of the counter stay at or below the values `DB_ARM` loaded (R26) -/
  debouncing_le : s.bstate = .debouncing →
    s.countdown ≤ timeoutFor s.cfg (target s) ∧ s.good ≤ timeoutFor s.cfg (target s) / 2
  /-- an accepted cycle has run out and needs no more samples -/
  debounced_done : s.bstate = .debounced → s.countdown = 0 ∧ s.good = 0

/-- The phases of the power sequence, from `PD_CLK` to `PU_CLK` (spec/43_power_controller.md R150). -/
def powerPhase : Phase → Bool
  | .pdClk | .pdDrv | .pdLed | .sleep | .asleep | .poll | .puDrv | .puClk => true
  | .wait | .debounce | .mode | .status | .clear | .reserved13 | .reserved14 | .reserved15 => false

/-- The phases between `PD_CLK` and `PU_CLK`, with the PWM timer clock off. -/
def clockOffPhase : Phase → Bool
  | .pdDrv | .pdLed | .sleep | .asleep | .poll | .puDrv | .puClk => true
  | .wait | .debounce | .mode | .pdClk | .status | .clear | .reserved13 | .reserved14 | .reserved15 => false

/-- The phases between `PD_DRV` and `PU_DRV`, with the pin driver off. -/
def driverOffPhase : Phase → Bool
  | .pdLed | .sleep | .asleep | .poll | .puDrv => true
  | .wait | .debounce | .mode | .pdClk | .pdDrv | .puClk | .status | .clear | .reserved13 | .reserved14
  | .reserved15 => false

/-- The phases between `PD_LED` and `STAT`, with the indicator off. -/
def indicatorOffPhase : Phase → Bool
  | .sleep | .asleep | .poll | .puDrv | .puClk => true
  | .wait | .debounce | .mode | .pdClk | .pdDrv | .pdLed | .status | .clear | .reserved13 | .reserved14
  | .reserved15 => false

/-- The invariant of the power sequence: what the outputs, the mode and the tick flag are in each phase
(DEDUCED from spec/43_power_controller.md R150 to R161, spec/60_exceptions.md R198 and spec/44_dispatcher.md
R171, R176). -/
structure PowerInv (s : State) : Prop where
  /-- the flag that started the pass stays set until `CLR` -/
  tick_set : s.dphase ≠ .wait → s.tickflag = true
  /-- the power phases belong to mode `Off` -/
  mode_off : powerPhase s.dphase = true → s.mode = .off
  /-- the PWM clock is off exactly from `PD_CLK` to `PU_CLK` -/
  clock : s.pwmclkEn = !clockOffPhase s.dphase
  /-- the pin driver is off exactly from `PD_DRV` to `PU_DRV` -/
  driver : s.outEn = !driverOffPhase s.dphase
  /-- the indicator is off from `PD_LED` to `STAT` -/
  indicator : indicatorOffPhase s.dphase = true → s.status = false

/-- The successor relation of `DPHASE` for dispatcher operations, the table of spec/10_state.md R36. -/
def phaseSuccessors : List (Phase × Phase) :=
  [(.wait, .debounce), (.debounce, .mode), (.mode, .pdClk), (.mode, .status), (.pdClk, .pdDrv),
    (.pdDrv, .pdLed), (.pdLed, .sleep), (.sleep, .asleep), (.poll, .puDrv), (.poll, .sleep),
    (.puDrv, .puClk), (.puClk, .status), (.status, .clear), (.clear, .wait)]

/-- The transitions of `BSTATE`, each with its operation (spec/41_button_debouncer.md R110). -/
def bstateTransitions : List (Instr × BState × BState) :=
  [(.pci, .unknown, .triggered), (.dbArm, .triggered, .debouncing), (.dbRun, .debouncing, .unknown),
    (.dbRun, .debouncing, .debounced), (.dbCommit, .debounced, .unknown)]

/-- The phases from the shutdown to the poll, which only a `POLL` that reads 1 leaves
(spec/43_power_controller.md R161). -/
def sleepLoopPhase : Phase → Bool
  | .pdClk | .pdDrv | .pdLed | .sleep | .asleep | .poll => true
  | .wait | .debounce | .mode | .puDrv | .puClk | .status | .clear | .reserved13 | .reserved14
  | .reserved15 => false

/-- A block that the shutdown sequence has put to sleep: asleep in mode Off, with the PWM clock, the pin driver
and the indicator off (spec/60_exceptions.md R198). -/
def shutDown (s : State) : Prop :=
  powerState s = .asleep ∧ s.mode = .off ∧ s.pwmclkEn = false ∧ s.outEn = false ∧ s.status = false

/-- Does the pass that starts at `s` run `M_OFF`? Its debounce operation may commit a press and advance the
mode first (spec/41_button_debouncer.md R118 corner c). -/
def passRunsOff (s : State) : Bool :=
  if s.bstate = .debounced ∧ s.bpos = .released then decide (s.mode = .blink) else decide (s.mode = .off)

/-! ### Premises about the environment -/

/-- Premise E1 on a script, from the level `prev` of `btn_n` before it: a `pc` event is raised for every
change of the level, and only then (spec/60_exceptions.md R184). A claim takes it; the model does not. -/
def premiseE1 : Level → List Input → Bool
  | _, [] => true
  | prev, x :: xs => (decide (x.src = .pc) == decide (x.btnN ≠ prev)) && premiseE1 x.btnN xs

/-- Premise E2 with its second value, in the present step: no `tov` while `PWMCLK_EN = 0`
(spec/40_tick_source.md R105). A claim takes it; the model does not. -/
def premiseE2NoTov (s : State) : Prop := sourceNow s = .tov → s.pwmclkEn = true

/-- An endless run: every step answers the next state. -/
def isTrace (run : Nat → State) : Prop := ∀ n, step (run n) = .next (run (n + 1))

/-- Weak fairness of the dispatcher on an endless run: "if a dispatcher operation stays enabled it eventually
occurs" (spec/70_reset_and_hazards.md R231). A claim takes it; the model does not. -/
def weaklyFair (run : Nat → State) : Prop :=
  ∀ (n : Nat) (i : Instr), i.agent = .dispatcher → (∀ m, n ≤ m → enabled i (run m) = true) →
    ∃ m, n ≤ m ∧ select (run m) = .operation i

/-! ### Iterated operations -/

/-- Continue with the state an operation gave. -/
def resultThen (o : Result) (f : State → Result) : Result :=
  match o with
  | .next s => f s
  | .fault r => .fault r
  | .refused r => .refused r

/-- `n` consecutive `TOV` operations. -/
def tovTimes : Nat → State → Result
  | 0, s => .next s
  | n + 1, s => resultThen (exec .tov s) (tovTimes n)

/-- The state at the debounce phase of the next pass of a window, with the level of `btn_n` there: between two
`DB_RUN` operations of one window no other operation writes what `DB_RUN` reads (DEDUCED, log entry 18). -/
def atWindowTick (s : State) (l : Level) : State :=
  (s.setDphase .debounce).setEnv { s.env with script := [⟨.dispatcher, l⟩] }

/-- The `DB_RUN` operations of a debounce window, one per listed level (spec/41_button_debouncer.md R121). -/
def windowTicks : List Level → State → Result
  | [], s => .next s
  | l :: ls, s => resultThen (exec .dbRun (atWindowTick s l)) (windowTicks ls)

/-- A debounce cycle from `DB_ARM` to the end of its window (spec/41_button_debouncer.md R120). -/
def debounceWindow (ls : List Level) (s : State) : Result := resultThen (exec .dbArm s) (windowTicks ls)

/-- How many levels are consistent with a target. -/
def consistentCount (t : BPos) (ls : List Level) : Nat := (ls.filter fun l => consistent l t).length

/-- The `M_BLINK` operations of `n` successive passes in mode Blink (spec/42_mode_scheduler.md R144):
between two of them no other operation writes what `M_BLINK` reads (DEDUCED, log entry 18). -/
def blinkTicks : Nat → State → Result
  | 0, s => .next s
  | n + 1, s => resultThen (exec .mBlink (s.setDphase .mode)) (blinkTicks n)

/-- The `M_MAX` operations of `n` successive passes in mode Max (spec/42_mode_scheduler.md R143): between two
of them no other operation writes what `M_MAX` reads (DEDUCED, log entry 18). -/
def maxTicks : Nat → State → Result
  | 0, s => .next s
  | n + 1, s => resultThen (exec .mMax (s.setDphase .mode)) (maxTicks n)

/-- `i` is selected exactly by the words with `SEL and mask = bits` (spec/30_encoding.md R88). -/
def selectedBy (i : Instr) (bits mask : Sel) : Prop := ∀ w : Sel, decode w = .ok i ↔ w &&& mask = bits

end Sys2Proof.Machine
end

