-- ==== Sys2Proof/Certificates/Slice0/Obligations.lean ====
section
/-!
DEFINITION. The statements about the block, for the provers. Each docstring names the rule of spec/ it
formalises. A statement about a result gives the whole next state, so it is the operation's frame as well: every
register it does not name is unchanged. There is no memory (spec/20_memory.md R63).
-/

open Sys2Proof Sys2Proof.Machine

/-! ### Reset -/

/-- The table of spec/10_state.md R50, in every configuration. The values are the spec's (its decision D8). -/
def Obligations.ResetRegisterValues : Prop :=
  ∀ c : Config,
    (State.resetWith c).subdiv = 0 ∧ (State.resetWith c).tickflag = false ∧
    (State.resetWith c).bstate = .unknown ∧ (State.resetWith c).bpos = .released ∧
    (State.resetWith c).countdown = 0 ∧ (State.resetWith c).good = 0 ∧ (State.resetWith c).mode = .off ∧
    (State.resetWith c).mdelay = 0 ∧ (State.resetWith c).eidx = 0 ∧
    (State.resetWith c).ecount = c.effectLen ∧ (State.resetWith c).lastduty = 0 ∧
    (State.resetWith c).statcnt = 0 ∧ (State.resetWith c).dphase = .wait ∧ (State.resetWith c).ocr = 0 ∧
    (State.resetWith c).pwmclkEn = true ∧ (State.resetWith c).outEn = true ∧
    (State.resetWith c).status = false

/-- spec/70_reset_and_hazards.md R210: "the first operation that can occur is a `TOV` or a `PCI`"; a dispatcher
step changes no register. -/
def Obligations.AfterResetOnlyEventsOperate : Prop :=
  ∀ (c : Config) (x : Input) (rest : List Input) (d : Nat), c.wf = true →
    (x.src = .dispatcher →
      step { State.resetWith c with env := ⟨x :: rest, d⟩ } =
        .next { State.resetWith c with env := ⟨rest, d⟩ }) ∧
    (x.src = .tov → select { State.resetWith c with env := ⟨x :: rest, d⟩ } = .operation .tov) ∧
    (x.src = .pc → select { State.resetWith c with env := ⟨x :: rest, d⟩ } = .operation .pci)

/-- spec/70_reset_and_hazards.md R211: "a freshly reset unit is off and asleep after its first tick", and which
operations lead there: `DB_IDLE`, or `DB_ARM` "if a `pc` event came first", after `j` overflows of the tick. The
rule is the spec's inference. The script is run by the test bench, whose `pass` is bounded by 16 steps (the
model's choice, log entry 13). -/
def Obligations.FirstTickAfterResetEndsAsleep : Prop :=
  ∀ c : Config, c.wf = true →
    (∃ b : Bench, runScript [.tick, .pass] (benchOf (State.resetWith c)) = .next b ∧ shutDown b.block ∧
      b.block.tickflag = true ∧ b.block.bstate = .unknown ∧
      b.trace.map TraceLine.op = List.replicate c.tickDiv (some .tov) ++
        [some .start, some .dbIdle, some .mOff, some .pdClk, some .pdDrv, some .pdLed, some .sleep]) ∧
    ∀ j : Nat, j ≤ c.tickDiv →
      ∃ b : Bench, runScript (List.replicate j .tov ++ .pc :: (List.replicate (c.tickDiv - j) .tov ++ [.pass]))
          (benchOf (State.resetWith c)) = .next b ∧ shutDown b.block ∧
        b.block.tickflag = true ∧ b.block.bstate = .debouncing ∧ b.block.countdown = c.pressTimeout ∧
        b.trace.map TraceLine.op = List.replicate j (some .tov) ++ some .pci ::
          (List.replicate (c.tickDiv - j) (some .tov) ++
            [some .start, some .dbArm, some .mOff, some .pdClk, some .pdDrv, some .pdLed, some .sleep])

/-! ### The selector -/

/-- spec/30_encoding.md R88: decoding any word of an operation's row gives the operation, and every word that
decodes to an operation is a word of its row. -/
def Obligations.DecodeEncodeAgree : Prop :=
  ∀ i : Instr, i.wf = true →
    (∀ rest : Sel, decode (encodeWith i rest) = .ok i) ∧ ∀ w : Sel, decode w = .ok i → encodeWith i w = w

/-- spec/30_encoding.md R88: words written out from the map decode to their operations; one word or more for
each family. -/
def Obligations.MapWordsDecode : Prop :=
  decode 0b0101101010#10 = .ok .tov ∧ decode 0b1001111100#10 = .ok .pci ∧
    decode 0b0000000110#10 = .ok .start ∧ decode 0b0000010010#10 = .ok .dbIdle ∧
    decode 0b0000010101#10 = .ok .dbArm ∧ decode 0b0000011001#10 = .ok .dbRun ∧
    decode 0b0000011110#10 = .ok .dbCommit ∧ decode 0b0000101100#10 = .ok .mOff ∧
    decode 0b0000100001#10 = .ok .mMax ∧ decode 0b0000100010#10 = .ok .mBlink ∧
    decode 0b0010001000#10 = .ok .poll ∧ decode 0b0011000001#10 = .ok .clr

/-- spec/30_encoding.md R87 with the codes of R82 to R85, the reserved ones included: the fields of `SEL`, and
the code of every value of every enumeration and of the level of `btn_n`. -/
def Obligations.SelectorHoldsStateCodes : Prop :=
  (∀ s : State, (selNow s).extractLsb' 8 2 = (sourceNow s).code ∧ (selNow s).extractLsb' 4 4 = s.dphase.code ∧
    (selNow s).extractLsb' 2 2 = s.bstate.code ∧ (selNow s).extractLsb' 0 2 = s.mode.code) ∧
  (Source.dispatcher.code = 0 ∧ Source.tov.code = 1 ∧ Source.pc.code = 2 ∧ Source.reserved.code = 3) ∧
  (BState.unknown.code = 0 ∧ BState.triggered.code = 1 ∧ BState.debouncing.code = 2 ∧
    BState.debounced.code = 3) ∧
  (BPos.released.code = 0 ∧ BPos.pressed.code = 1 ∧ Level.low.code = 0 ∧ Level.high.code = 1) ∧
  (Mode.off.code = 0 ∧ Mode.max.code = 1 ∧ Mode.blink.code = 2 ∧ Mode.reserved.code = 3) ∧
  (Phase.wait.code = 0 ∧ Phase.debounce.code = 1 ∧ Phase.mode.code = 2 ∧ Phase.pdClk.code = 3 ∧
    Phase.pdDrv.code = 4 ∧ Phase.pdLed.code = 5 ∧ Phase.sleep.code = 6 ∧ Phase.asleep.code = 7 ∧
    Phase.poll.code = 8 ∧ Phase.puDrv.code = 9 ∧ Phase.puClk.code = 10 ∧ Phase.status.code = 11 ∧
    Phase.clear.code = 12 ∧ Phase.reserved13.code = 13 ∧ Phase.reserved14.code = 14 ∧
    Phase.reserved15.code = 15)

/-- spec/30_encoding.md R91: what the selector values that select no operation mean, as words and as steps. A
hold changes no register; the environment moves on (the model's choice, log entry 4). -/
def Obligations.UnselectedValuesHoldOrRefuse : Prop :=
  (∀ w : Sel,
    (w.extractLsb' 8 2 = 3#2 → decode w = .error .reservedSource) ∧
    (w.extractLsb' 8 2 = 0#2 → w.extractLsb' 4 4 = 7#4 → decode w = .error .asleepHold) ∧
    (w.extractLsb' 8 2 = 0#2 → w.extractLsb' 4 4 = 2#4 → w.extractLsb' 0 2 = 3#2 →
      decode w = .error .reservedMode) ∧
    (w.extractLsb' 8 2 = 0#2 → 13#4 ≤ w.extractLsb' 4 4 → decode w = .error .reservedPhase)) ∧
  (∀ s : State, stateRefusal s = none → sourceNow s = .dispatcher →
    (s.dphase = .asleep ∨ (s.dphase = .wait ∧ s.tickflag = false)) →
      step s = .next { s with env := envNext s.env }) ∧
  ∀ s : State, stateRefusal s = none → sourceNow s = .reserved → step s = .refused .reservedSource

/-- spec/30_encoding.md R89: the operation that occurs in a step is the one whose agent acts and whose row and
extra condition the state meets. -/
def Obligations.SelectedOperationIsEnabledOne : Prop :=
  ∀ (s : State) (i : Instr), stateRefusal s = none →
    (select s = .operation i ↔ i.agent.source = sourceNow s ∧ enabled i s = true)

/-- spec/30_encoding.md R88 and R91: an admitted state enables one dispatcher operation, and none when the
dispatcher holds. -/
def Obligations.OneDispatcherOperationUnlessHolding : Prop :=
  ∀ s : State, stateRefusal s = none →
    (∀ i j : Instr, i.agent = .dispatcher → j.agent = .dispatcher → enabled i s = true →
      enabled j s = true → i = j) ∧
    ((∃ i : Instr, i.agent = .dispatcher ∧ enabled i s = true) ↔
      ¬(s.dphase = .asleep ∨ (s.dphase = .wait ∧ s.tickflag = false)))

/-! ### The step -/

/-- A step runs the decoded operation: where `SEL` decodes to `i` and the extra condition of `START` holds, the
step is `exec i`, and it moves the environment on and changes nothing else (spec/30_encoding.md R89; that the
environment's inputs stand in the state is the model's choice, log entry 2). -/
def Obligations.StepRunsDecodedOperation : Prop :=
  ∀ (s : State) (i : Instr), i.wf = true → stateRefusal s = none → decode (selNow s) = .ok i →
    (i = .start → s.tickflag = true) →
      (∀ t, exec i s = .next t → step s = .next { t with env := envNext s.env }) ∧
      (∀ r, exec i s = .refused r → step s = .refused r)

/-- How the environment supplies its inputs: a script in order, and free inputs after it, never of the reserved
source (the model's choice, log entries 2 and 20; spec/30_encoding.md section 3). -/
def Obligations.EnvironmentSuppliesInputsInOrder : Prop :=
  (∀ (x : Input) (r : List Input) (d : Nat), envNow ⟨x :: r, d⟩ = x ∧ envNext ⟨x :: r, d⟩ = ⟨r, d⟩) ∧
  ∀ d : Nat, (envNow ⟨[], d⟩).src = (Config.freeAgent d).source ∧ (envNow ⟨[], d⟩).src ≠ .reserved ∧
    (envNow ⟨[], d⟩).btnN = Config.freeLevel d ∧ envNext ⟨[], d⟩ = ⟨[], d + 1⟩

/-- spec/00_scope.md R12: "An operation whose enabling condition is false cannot occur." The refusal is the
model's choice (log entry 5). -/
def Obligations.DisabledOperationRefused : Prop :=
  ∀ (s : State) (i : Instr), stateRefusal s = none → enabled i s = false →
    exec i s = .refused (.notEnabled i.mnemonic)

/-- spec/45_common_laws.md R241 (U2), spec/60_exceptions.md R182 (U11, U12, U14): which configurations and
start states every operation and every step refuses. The names, and the refusal of `OCR`, `COUNTDOWN`, `GOOD` and
`LASTDUTY` outside their widths, are the model's choice (log entries 6, 7). -/
def Obligations.MeaninglessStatesRefused : Prop :=
  ∀ s : State,
    (s.cfg.wf = false → step s = .refused .badConfiguration ∧ ∀ i, exec i s = .refused .badConfiguration) ∧
    (s.cfg.wf = true → s.mode = .reserved →
      step s = .refused .reservedModeCode ∧ ∀ i, exec i s = .refused .reservedModeCode) ∧
    (s.cfg.wf = true → s.mode ≠ .reserved →
      (s.dphase = .reserved13 ∨ s.dphase = .reserved14 ∨ s.dphase = .reserved15) →
        step s = .refused .reservedPhaseCode ∧ ∀ i, exec i s = .refused .reservedPhaseCode) ∧
    (s.cfg.wf = true → s.mode ≠ .reserved → phaseReserved s.dphase = false →
      (s.cfg.tickDiv ≤ s.subdiv ∨ s.cfg.effectLen ≤ s.eidx ∨ s.cfg.statusDiv ≤ s.statcnt ∨
        s.cfg.blinkDelay < s.mdelay ∨ 2 ^ s.cfg.dutyW ≤ s.ocr ∨ 2 ^ s.cfg.cntW ≤ s.countdown ∨
        2 ^ s.cfg.cntW ≤ s.good ∨ 2 ^ s.cfg.cntW ≤ s.lastduty) →
        step s = .refused .registerOutOfRange ∧ ∀ i, exec i s = .refused .registerOutOfRange)

/-- spec/60_exceptions.md R180 and spec/30_encoding.md R89: a step of an admitted state answers a next state,
whoever acts. That a dispatcher step in a hold state is a step, which changes no register, is the model's choice
(log entry 4): the spec has no dispatcher step there. -/
def Obligations.AdmittedStateAlwaysSteps : Prop :=
  ∀ s : State, stateRefusal s = none → sourceNow s ≠ .reserved → ∃ t, step s = .next t

/-! ### TickSource -/

/-- `TOV` (spec/40_tick_source.md R100). -/
def Obligations.TovCountsAndWakes : Prop :=
  selectedBy .tov 0x100 0x300 ∧
  ∀ s : State, stateRefusal s = none →
    exec .tov s = .next { s with
      subdiv := if s.subdiv + 1 = s.cfg.tickDiv then 0 else s.subdiv + 1
      tickflag := if s.subdiv + 1 = s.cfg.tickDiv then true else s.tickflag
      dphase := if s.dphase = .asleep then .poll else s.dphase }

/-! ### ButtonDebouncer -/

/-- `PCI` (spec/41_button_debouncer.md R113). -/
def Obligations.PciTriggersAndWakes : Prop :=
  selectedBy .pci 0x200 0x300 ∧
  ∀ s : State, stateRefusal s = none →
    exec .pci s = .next { s with
      bstate := if s.bstate = .unknown then .triggered else s.bstate
      dphase := if s.dphase = .asleep then .poll else s.dphase }

/-- `DB_IDLE` (spec/41_button_debouncer.md R114). -/
def Obligations.DbIdleOnlyMovesOn : Prop :=
  selectedBy .dbIdle 0x010 0x3FC ∧
  ∀ s : State, stateRefusal s = none → s.dphase = .debounce → s.bstate = .unknown →
    exec .dbIdle s = .next { s with dphase := .mode }

/-- `DB_ARM` (spec/41_button_debouncer.md R115). -/
def Obligations.DbArmLoadsWindow : Prop :=
  selectedBy .dbArm 0x014 0x3FC ∧
  ∀ s : State, stateRefusal s = none → s.dphase = .debounce → s.bstate = .triggered →
    (s.bpos = .released → exec .dbArm s = .next { s with
      countdown := s.cfg.pressTimeout, good := s.cfg.pressTimeout / 2, bstate := .debouncing
      dphase := .mode }) ∧
    (s.bpos = .pressed → exec .dbArm s = .next { s with
      countdown := s.cfg.releaseTimeout, good := s.cfg.releaseTimeout / 2, bstate := .debouncing
      dphase := .mode })

/-- `DB_RUN` (spec/41_button_debouncer.md R116). While the countdown runs it is decremented and, if samples are
still needed, the level is sampled: low counts for the target Pressed (`BPOS` Released), high for Released. -/
def Obligations.DbRunSamplesAndDecides : Prop :=
  selectedBy .dbRun 0x018 0x3FC ∧
  ∀ s : State, stateRefusal s = none → s.dphase = .debounce → s.bstate = .debouncing →
    ∀ left need : Nat,
      left = (if 0 < s.countdown then s.countdown - 1 else 0) →
      need = (if 0 < s.countdown ∧ 0 < s.good ∧
          ((pinRead s = .low ∧ s.bpos = .released) ∨ (pinRead s = .high ∧ s.bpos = .pressed))
        then s.good - 1 else s.good) →
      exec .dbRun s = .next { s with
        countdown := left
        good := need
        bstate := if left = 0 then (if need = 0 then .debounced else .unknown) else .debouncing
        dphase := .mode }

/-- `DB_COMMIT` (spec/41_button_debouncer.md R118). -/
def Obligations.DbCommitCommitsAndAdvances : Prop :=
  selectedBy .dbCommit 0x01C 0x3FC ∧
  ∀ s : State, stateRefusal s = none → s.dphase = .debounce → s.bstate = .debounced →
    (s.bpos = .pressed → exec .dbCommit s = .next { s with
      bpos := .released, bstate := .unknown, dphase := .mode }) ∧
    (s.bpos = .released → s.mode = .off → exec .dbCommit s = .next { s with
      bpos := .pressed, mode := .max, bstate := .unknown, dphase := .mode }) ∧
    (s.bpos = .released → s.mode = .max → exec .dbCommit s = .next { s with
      bpos := .pressed, mode := .blink, bstate := .unknown, dphase := .mode }) ∧
    (s.bpos = .released → s.mode = .blink → exec .dbCommit s = .next { s with
      bpos := .pressed, mode := .off, bstate := .unknown, dphase := .mode })

/-! ### ModeScheduler -/

/-- `M_OFF` (spec/42_mode_scheduler.md R131). -/
def Obligations.MOffEntersShutdown : Prop :=
  selectedBy .mOff 0x020 0x3F3 ∧
  ∀ s : State, stateRefusal s = none → s.dphase = .mode → s.mode = .off →
    exec .mOff s = .next { s with dphase := .pdClk }

/-- `M_MAX` with its delay gate (spec/42_mode_scheduler.md R133). -/
def Obligations.MMaxAppliesMaxDuty : Prop :=
  selectedBy .mMax 0x021 0x3F3 ∧
  ∀ s : State, stateRefusal s = none → s.dphase = .mode → s.mode = .max →
    (s.mdelay ≠ 0 → exec .mMax s = .next { s with mdelay := s.mdelay - 1, dphase := .status }) ∧
    (s.mdelay = 0 → exec .mMax s = .next { s with
      lastduty := s.cfg.maxModeDuty, mdelay := 0, eidx := 0
      ocr := s.cfg.maxModeDuty % 2 ^ s.cfg.dutyW, dphase := .status })

/-- `M_BLINK` with its delay gate (spec/42_mode_scheduler.md R134). -/
def Obligations.MBlinkStepsThroughTable : Prop :=
  selectedBy .mBlink 0x022 0x3F3 ∧
  ∀ s : State, stateRefusal s = none → s.dphase = .mode → s.mode = .blink →
    (s.mdelay ≠ 0 → exec .mBlink s = .next { s with mdelay := s.mdelay - 1, dphase := .status }) ∧
    (s.mdelay = 0 → ∃ e : Nat, s.cfg.effect[s.eidx]? = some e ∧ exec .mBlink s = .next { s with
      mdelay := s.cfg.blinkDelay, eidx := (s.eidx + 1) % s.cfg.effectLen, lastduty := e
      ocr := e % 2 ^ s.cfg.dutyW, dphase := .status })

/-! ### PowerController -/

/-- `PD_CLK` (spec/43_power_controller.md R151). -/
def Obligations.PdClkStopsPwmClock : Prop :=
  selectedBy .pdClk 0x030 0x3F0 ∧
  ∀ s : State, stateRefusal s = none → s.dphase = .pdClk →
    exec .pdClk s = .next { s with pwmclkEn := false, dphase := .pdDrv }

/-- `PD_DRV` (spec/43_power_controller.md R152). -/
def Obligations.PdDrvDisablesPinDriver : Prop :=
  selectedBy .pdDrv 0x040 0x3F0 ∧
  ∀ s : State, stateRefusal s = none → s.dphase = .pdDrv →
    exec .pdDrv s = .next { s with outEn := false, dphase := .pdLed }

/-- `PD_LED` (spec/43_power_controller.md R153). -/
def Obligations.PdLedTurnsIndicatorOff : Prop :=
  selectedBy .pdLed 0x050 0x3F0 ∧
  ∀ s : State, stateRefusal s = none → s.dphase = .pdLed →
    exec .pdLed s = .next { s with status := false, dphase := .sleep }

/-- `SLEEP` (spec/43_power_controller.md R154). -/
def Obligations.SleepEntersAsleep : Prop :=
  selectedBy .sleep 0x060 0x3F0 ∧
  ∀ s : State, stateRefusal s = none → s.dphase = .sleep →
    exec .sleep s = .next { s with dphase := .asleep }

/-- `POLL` (spec/43_power_controller.md R157). -/
def Obligations.PollBranchesOnRawLevel : Prop :=
  selectedBy .poll 0x080 0x3F0 ∧
  ∀ s : State, stateRefusal s = none → s.dphase = .poll →
    (pinRead s = .high → exec .poll s = .next { s with dphase := .puDrv }) ∧
    (pinRead s = .low → exec .poll s = .next { s with dphase := .sleep })

/-- `PU_DRV` (spec/43_power_controller.md R158). -/
def Obligations.PuDrvEnablesPinDriver : Prop :=
  selectedBy .puDrv 0x090 0x3F0 ∧
  ∀ s : State, stateRefusal s = none → s.dphase = .puDrv →
    exec .puDrv s = .next { s with outEn := true, dphase := .puClk }

/-- `PU_CLK` (spec/43_power_controller.md R159). -/
def Obligations.PuClkStartsPwmClock : Prop :=
  selectedBy .puClk 0x0A0 0x3F0 ∧
  ∀ s : State, stateRefusal s = none → s.dphase = .puClk →
    exec .puClk s = .next { s with pwmclkEn := true, dphase := .status }

/-! ### Dispatcher -/

/-- `START` (spec/44_dispatcher.md R171): with the flag set the pass begins and the flag stays; with the flag
clear a dispatcher step is a hold and `START` cannot occur. -/
def Obligations.StartNeedsTickFlag : Prop :=
  selectedBy .start 0x000 0x3F0 ∧
  (∀ s : State, stateRefusal s = none → s.dphase = .wait → s.tickflag = true →
    exec .start s = .next { s with dphase := .debounce }) ∧
  (∀ s : State, stateRefusal s = none → s.dphase = .wait → s.tickflag = false →
    exec .start s = .refused (.notEnabled "START") ∧
      (sourceNow s = .dispatcher → step s = .next { s with env := envNext s.env }))

/-- `STAT` (spec/44_dispatcher.md R174, the spec's decision D17). -/
def Obligations.StatDividesAndToggles : Prop :=
  selectedBy .stat 0x0B0 0x3F0 ∧
  ∀ s : State, stateRefusal s = none → s.dphase = .status →
    exec .stat s = .next { s with
      statcnt := if s.statcnt + 1 = s.cfg.statusDiv then 0 else s.statcnt + 1
      status := if s.statcnt + 1 = s.cfg.statusDiv then !s.status else s.status
      dphase := .clear }

/-- `CLR` (spec/44_dispatcher.md R176). -/
def Obligations.ClrClearsTickFlag : Prop :=
  selectedBy .clr 0x0C0 0x3F0 ∧
  ∀ s : State, stateRefusal s = none → s.dphase = .clear →
    exec .clr s = .next { s with tickflag := false, dphase := .wait }

/-! ### Primitives and ports -/

/-- spec/20_memory.md R61 and spec/42_mode_scheduler.md R140, R141: the table read, the compare register and the
pin driver. -/
def Obligations.TableReadAndPulseOutputPrimitives : Prop :=
  (∀ (c : Config) (i : Nat), c.wf = true →
    (i < c.effectLen → ∃ e, c.effect[i]? = some e ∧ tblRead c i = some e) ∧
    (c.effectLen ≤ i → tblRead c i = none)) ∧
  (∀ (s : State) (v : Nat), setLevel s v = { s with ocr := v % 2 ^ s.cfg.dutyW }) ∧
  (∀ (s : State) (v : Nat), v < 2 ^ s.cfg.dutyW → (setLevel s v).ocr = v) ∧
  (∀ s : State, outEnable s = { s with outEn := true } ∧ outDisable s = { s with outEn := false })

/-- spec/10_state.md R44: the output ports show the registers, and `sleep_req` is 1 exactly while asleep. -/
def Obligations.PortsShowRegisters : Prop :=
  ∀ s : State, (outPorts s).duty = s.ocr ∧ (outPorts s).pwmClkEn = s.pwmclkEn ∧
    (outPorts s).outEn = s.outEn ∧ (outPorts s).status = s.status ∧
    ((outPorts s).sleepReq = true ↔ s.dphase = .asleep) ∧
    ((outPorts s).sleepReq = true ↔ powerState s = .asleep)

/-! ### Whole-machine rules -/

/-- spec/10_state.md R55, with the writers of R21 to R43 and the transitions of
spec/41_button_debouncer.md R110: which operation may write which register. -/
def Obligations.RegistersHaveNoOtherWriters : Prop :=
  ∀ (i : Instr) (s t : State), exec i s = .next t →
    t.cfg = s.cfg ∧ t.env = s.env ∧ t.ecount = s.ecount ∧
    (t.subdiv = s.subdiv ∨ i = .tov) ∧
    (t.tickflag = s.tickflag ∨ (i = .tov ∧ t.tickflag = true) ∨ (i = .clr ∧ t.tickflag = false)) ∧
    (t.bstate = s.bstate ∨ (i, s.bstate, t.bstate) ∈ bstateTransitions) ∧
    (t.bpos = s.bpos ∨ i = .dbCommit) ∧ (t.mode = s.mode ∨ i = .dbCommit) ∧
    ((t.countdown = s.countdown ∧ t.good = s.good) ∨ i = .dbArm ∨ i = .dbRun) ∧
    ((t.mdelay = s.mdelay ∧ t.eidx = s.eidx ∧ t.lastduty = s.lastduty ∧ t.ocr = s.ocr) ∨
      i = .mMax ∨ i = .mBlink) ∧
    (t.statcnt = s.statcnt ∨ i = .stat) ∧
    (t.pwmclkEn = s.pwmclkEn ∨ (i = .pdClk ∧ t.pwmclkEn = false) ∨ (i = .puClk ∧ t.pwmclkEn = true)) ∧
    (t.outEn = s.outEn ∨ (i = .pdDrv ∧ t.outEn = false) ∨ (i = .puDrv ∧ t.outEn = true)) ∧
    (t.status = s.status ∨ (i = .pdLed ∧ t.status = false) ∨ i = .stat)

/-- spec/60_exceptions.md R192: what the interrupt context may write. -/
def Obligations.InterruptContextWritesOnlyMailboxes : Prop :=
  ∀ (i : Instr) (s t : State), contextOf i = .interrupt → exec i s = .next t →
    t = { s with subdiv := t.subdiv, tickflag := t.tickflag, bstate := t.bstate, dphase := t.dphase } ∧
    (t.bstate = s.bstate ∨ (s.bstate = .unknown ∧ t.bstate = .triggered)) ∧
    (t.dphase = s.dphase ∨ (s.dphase = .asleep ∧ t.dphase = .poll)) ∧
    (s.tickflag = true → t.tickflag = true)

/-- spec/10_state.md R36: the successor relation of `DPHASE`. -/
def Obligations.PhaseFollowsSuccessorTable : Prop :=
  ∀ (i : Instr) (s t : State), exec i s = .next t →
    (i.agent = .dispatcher → (s.dphase, t.dphase) ∈ phaseSuccessors) ∧
    (i.agent ≠ .dispatcher → s.dphase ≠ .asleep → t.dphase = s.dphase) ∧
    (i.agent ≠ .dispatcher → s.dphase = .asleep → t.dphase = .poll)

/-- spec/10_state.md R56: the invariant of the reachable states holds after reset, in every configuration. -/
def Obligations.ResetMeetsReachableInv : Prop := ∀ c : Config, c.wf = true → ReachableInv (State.resetWith c)

/-- spec/10_state.md R56: every step keeps the invariant of the reachable states. -/
def Obligations.StepKeepsReachableInv : Prop :=
  ∀ s t : State, ReachableInv s → step s = .next t → ReachableInv t

/-- The invariant of the power sequence holds after reset. -/
def Obligations.ResetMeetsPowerInv : Prop := ∀ c : Config, PowerInv (State.resetWith c)

/-- spec/43_power_controller.md R161 and spec/60_exceptions.md R198: every step keeps the invariant of the power
sequence: before sleeping the clock, the driver and the indicator are off, and they are on again after the
restore. -/
def Obligations.StepKeepsPowerInv : Prop := ∀ s t : State, PowerInv s → step s = .next t → PowerInv t

/-- spec/60_exceptions.md R180 with spec/10_state.md R56: from every state that meets both invariants, whatever
the inputs but the reserved source, a step answers a next state that meets both again. A hold counts as a step,
which is the model's choice (log entry 4). -/
def Obligations.InvariantStatesStepOn : Prop :=
  ∀ s : State, ReachableInv s → PowerInv s → sourceNow s ≠ .reserved →
    ∃ t : State, step s = .next t ∧ ReachableInv t ∧ PowerInv t

/-- spec/60_exceptions.md R180: no run of any length stops, from any state that meets both invariants (the reset
state of every configuration does), under any script without the reserved source and under the free inputs after
it. A hold counts as a step, which is the model's choice (log entry 4). -/
def Obligations.RunsNeverStop : Prop :=
  ∀ (n : Nat) (s : State), ReachableInv s → PowerInv s → (∀ x ∈ s.env.script, x.src ≠ .reserved) →
    ∃ t : State, Host.Core.run Sys2Proof.core n s = .next t ∧ ReachableInv t ∧ PowerInv t

/-- spec/60_exceptions.md R186: the two handlers commute. -/
def Obligations.HandlersCommute : Prop :=
  ∀ s : State, stateRefusal s = none →
    ∃ u v t : State, exec .tov s = .next u ∧ exec .pci u = .next t ∧ exec .pci s = .next v ∧
      exec .tov v = .next t

/-- spec/20_memory.md R72 (b), with the wake of spec/60_exceptions.md R190: a `TOV` commutes with every
dispatcher operation but `CLR`, which it races for `TICKFLAG`, and `SLEEP`, which it wakes from. -/
def Obligations.TovCommutesWithDispatcherOperations : Prop :=
  ∀ (i : Instr) (s t : State), i.agent = .dispatcher → i ≠ .clr → i ≠ .sleep → exec i s = .next t →
    ∃ u v : State, exec .tov t = .next u ∧ exec .tov s = .next v ∧ exec i v = .next u

/-- spec/40_tick_source.md R102, the division law: `n` overflows from any start, and which of them sets the
flag. -/
def Obligations.TovDivisionLaw : Prop :=
  ∀ (n : Nat) (s : State), stateRefusal s = none →
    ∃ t : State, tovTimes n s = .next t ∧ t.subdiv = (s.subdiv + n) % s.cfg.tickDiv ∧
      (t.tickflag = true ↔ s.tickflag = true ∨ s.cfg.tickDiv ≤ s.subdiv + n) ∧
      ∃ v : State, exec .tov (t.setTickflag false) = .next v ∧
        (v.tickflag = true ↔ (s.subdiv + (n + 1)) % s.cfg.tickDiv = 0)

/-- spec/30_encoding.md R96: the token `tick` is `TICK_DIV` `TOV` operations, and no other line is added to the
trace; exactly one of them sets `TICKFLAG`, the (`TICK_DIV` - k)-th from `SUBDIV` = k, where an operation sets the
flag when it leaves it set after finding it clear; `SUBDIV` ends where it started. -/
def Obligations.TickTokenSetsFlagOnce : Prop :=
  ∀ b : Bench, stateRefusal b.block = none →
    ∃ (b' : Bench) (lines : List TraceLine), runToken .tick b = .next b' ∧ b'.pin = b.pin ∧
      b'.trace = b.trace ++ lines ∧ lines.length = b.block.cfg.tickDiv ∧
      b'.block.subdiv = b.block.subdiv ∧ b'.block.tickflag = true ∧
      ∀ (k : Nat) (l : TraceLine), lines[k]? = some l → l.op = some .tov ∧
        ∃ before after cleared : State, tovTimes k b.block = .next before ∧ exec .tov before = .next after ∧
          l.after = after.setEnv l.after.env ∧ exec .tov (before.setTickflag false) = .next cleared ∧
          (cleared.tickflag = true ↔ k + 1 = b.block.cfg.tickDiv - b.block.subdiv)

/-- spec/41_button_debouncer.md R121 and R120, debounce correctness: a window of length L commits iff at least
L div 2 of its levels match the target; the committed position and the mode are unchanged at its end. That the
`DB_RUN` operations of a window may be taken one after the other is DEDUCED (log entry 18). -/
def Obligations.DebounceCommitsIffHalfMatch : Prop :=
  ∀ (s : State) (ls : List Level), stateRefusal s = none → s.dphase = .debounce → s.bstate = .triggered →
    ls.length = max (timeoutFor s.cfg (target s)) 1 →
      ∃ t : State, debounceWindow ls s = .next t ∧ t.bpos = s.bpos ∧ t.mode = s.mode ∧ t.countdown = 0 ∧
        t.bstate =
          if timeoutFor s.cfg (target s) / 2 ≤ consistentCount (target s) ls then .debounced else .unknown

/-- spec/42_mode_scheduler.md R144 with R132, blink cycling: a leftover delay holds the old duty for that many
ticks; after it the table is replayed in order, each entry for `BLINK_DELAY` + 1 ticks, wrapping after the last.
That the `M_BLINK` operations may be taken one after the other is DEDUCED (log entry 18). -/
def Obligations.BlinkReplaysTable : Prop :=
  ∀ s : State, stateRefusal s = none → s.mode = .blink →
    (∀ n : Nat, n ≤ s.mdelay → ∃ t : State, blinkTicks n s = .next t ∧ t.mdelay = s.mdelay - n ∧
      t.lastduty = s.lastduty ∧ t.ocr = s.ocr ∧ t.eidx = s.eidx) ∧
    ∀ k j : Nat, j ≤ s.cfg.blinkDelay →
      ∃ (t : State) (e : Nat), blinkTicks (s.mdelay + (k * (s.cfg.blinkDelay + 1) + 1 + j)) s = .next t ∧
        s.cfg.effect[(s.eidx + k) % s.cfg.effectLen]? = some e ∧ t.lastduty = e ∧
        t.ocr = e % 2 ^ s.cfg.dutyW ∧ t.mdelay = s.cfg.blinkDelay - j ∧
        t.eidx = (s.eidx + k + 1) % s.cfg.effectLen

/-- spec/42_mode_scheduler.md R143 with R133 corner b, duty mapping: in mode Max a leftover delay holds the old
duty for that many ticks, and every later tick applies `MAX_MODE_DUTY`, however many ticks elapse; the default
`MAX_MODE_DUTY` is below `MAX_DUTY`, so it is not truncated. That the `M_MAX` operations may be taken one after
the other is DEDUCED (log entry 18). -/
def Obligations.MaxModeHoldsConfiguredDuty : Prop :=
  (∀ (s : State) (n : Nat), stateRefusal s = none → s.mode = .max →
    ∃ t : State, maxTicks n s = .next t ∧ t.mode = .max ∧ t.mdelay = s.mdelay - n ∧
      (n ≤ s.mdelay → t.lastduty = s.lastduty ∧ t.ocr = s.ocr ∧ t.eidx = s.eidx) ∧
      (s.mdelay < n → t.lastduty = s.cfg.maxModeDuty ∧ t.ocr = s.cfg.maxModeDuty % 2 ^ s.cfg.dutyW ∧
        t.eidx = 0 ∧ (s.cfg.maxModeDuty < 2 ^ s.cfg.dutyW → t.ocr = s.cfg.maxModeDuty))) ∧
  ∀ c : Config, c.wf = true → Config.defaultMaxModeDuty c.maxDuty < c.maxDuty ∧
    Config.defaultMaxModeDuty c.maxDuty < 2 ^ c.dutyW

/-- spec/41_button_debouncer.md R122, idempotence under no input: without a `pc` event, no number of steps
changes the mode, the committed position or the debounce state `Unknown`. -/
def Obligations.NoPinChangeNoModeChange : Prop :=
  ∀ (n : Nat) (s t : State), s.bstate = .unknown → n ≤ s.env.script.length →
    (∀ x ∈ s.env.script, x.src ≠ .pc) → Host.Core.run Sys2Proof.core n s = .next t →
      t.bstate = .unknown ∧ t.mode = s.mode ∧ t.bpos = s.bpos

/-- spec/41_button_debouncer.md R123, mode cycling: the mode changes only by a committed press, by one in the
cyclic order, and a committed press needs `BPOS` Released and leaves it Pressed. -/
def Obligations.ModeAdvancesOnlyOnCommittedPress : Prop :=
  ∀ s t : State, step s = .next t → t.mode ≠ s.mode →
    select s = .operation .dbCommit ∧ s.bpos = .released ∧ t.bpos = .pressed ∧
      (s.mode, t.mode) ∈ [(Mode.off, Mode.max), (Mode.max, Mode.blink), (Mode.blink, Mode.off)]

/-- spec/43_power_controller.md R161: only a `POLL` that reads 1 leaves the shutdown and sleep loop. -/
def Obligations.SleepLoopLeftOnlyOnRelease : Prop :=
  ∀ s t : State, step s = .next t → sleepLoopPhase s.dphase = true →
    sleepLoopPhase t.dphase = true ∨
      (select s = .operation .poll ∧ pinRead s = .high ∧ t.dphase = .puDrv)

/-- spec/60_exceptions.md R198: the sleep state is entered only by `SLEEP`, left only by a handler's wake, and
nothing but what the handlers write changes in it. -/
def Obligations.SleepEnteredAndLeftOnlySo : Prop :=
  ∀ s t : State, step s = .next t →
    (powerState s = .running → powerState t = .asleep → select s = .operation .sleep) ∧
    (powerState s = .asleep → powerState t = .running →
      (select s = .operation .tov ∨ select s = .operation .pci) ∧ t.dphase = .poll) ∧
    (powerState s = .asleep →
      t = { s with env := t.env, subdiv := t.subdiv, tickflag := t.tickflag, bstate := t.bstate
                   dphase := t.dphase })

/-- spec/40_tick_source.md R105 and premise E2 with its second value: if no `tov` event arrives while the PWM
clock is off, a sleeping block is woken by `pc` events only. -/
def Obligations.WithoutOverflowsOnlyPinWakes : Prop :=
  ∀ s t : State, PowerInv s → premiseE2NoTov s → s.dphase = .asleep → step s = .next t →
    t.dphase ≠ .asleep → select s = .operation .pci

/-- spec/20_memory.md R65: no operation but `POLL`, and `DB_RUN` while samples are needed, depends on the level
of `btn_n`, or on anything else of the environment. -/
def Obligations.LevelReadOnlyByPollAndSampling : Prop :=
  ∀ (i : Instr) (s t : State) (e : Env), i ≠ .poll → (i = .dbRun → s.good = 0) → exec i s = .next t →
    exec i (s.setEnv e) = .next (t.setEnv e)

/-- spec/44_dispatcher.md R179 and R170: a pass that does not run `M_OFF` is exactly five operations, `START`, the
debounce operation of `BSTATE`, the mode operation of the mode it leaves, `STAT` and `CLR`, and it clears the
flag. -/
def Obligations.PassWithoutOffIsFiveOperations : Prop :=
  ∀ (s : State) (l₁ l₂ l₃ l₄ l₅ : Level) (rest : List Input), stateRefusal s = none → s.dphase = .wait →
    s.tickflag = true → passRunsOff s = false →
    s.env.script = ⟨.dispatcher, l₁⟩ :: ⟨.dispatcher, l₂⟩ :: ⟨.dispatcher, l₃⟩ :: ⟨.dispatcher, l₄⟩ ::
      ⟨.dispatcher, l₅⟩ :: rest →
      ∃ s₁ s₂ s₃ s₄ s₅ : State,
        (select s = .operation .start ∧ step s = .next s₁ ∧ s₁.dphase = .debounce) ∧
        (select s₁ = .operation (decodeDebounce s.bstate) ∧ step s₁ = .next s₂ ∧ s₂.dphase = .mode) ∧
        (((s₂.mode = .max ∧ select s₂ = .operation .mMax) ∨
            (s₂.mode = .blink ∧ select s₂ = .operation .mBlink)) ∧
          step s₂ = .next s₃ ∧ s₃.dphase = .status) ∧
        (select s₃ = .operation .stat ∧ step s₃ = .next s₄ ∧ s₄.dphase = .clear) ∧
        (select s₄ = .operation .clr ∧ step s₄ = .next s₅ ∧ s₅.dphase = .wait) ∧
        s₅.tickflag = false ∧ s₅.env.script = rest

/-- spec/70_reset_and_hazards.md R221: a tick completed just before `CLR` is erased by it; completed just after,
it survives. -/
def Obligations.TickBeforeClearIsLost : Prop :=
  ∀ s : State, stateRefusal s = none → s.dphase = .clear → s.subdiv + 1 = s.cfg.tickDiv →
    (∃ t, resultThen (exec .tov s) (exec .clr) = .next t ∧ t.tickflag = false) ∧
    (∃ t, resultThen (exec .clr s) (exec .tov) = .next t ∧ t.tickflag = true)

/-- spec/70_reset_and_hazards.md R223, the lost wake-up: an event between `POLL` and `SLEEP`, a `PCI` in any
`BSTATE` or a `TOV`, does its own work but does not prevent the sleep. -/
def Obligations.EventBeforeSleepDoesNotWake : Prop :=
  ∀ s : State, stateRefusal s = none → s.dphase = .sleep →
    resultThen (exec .pci s) (exec .sleep) = .next { s with
      bstate := if s.bstate = .unknown then .triggered else s.bstate
      dphase := .asleep } ∧
    resultThen (exec .tov s) (exec .sleep) = .next { s with
      subdiv := if s.subdiv + 1 = s.cfg.tickDiv then 0 else s.subdiv + 1
      tickflag := if s.subdiv + 1 = s.cfg.tickDiv then true else s.tickflag
      dphase := .asleep }
end

