-- ==== Sys2Proof/Laws/Decode.lean ====
section
/-!
SUPPORT. The small lemmas of the codes, the selector word and its fields.
-/

namespace Sys2Proof

@[simp] theorem BState.ofCode_code (b : BState) : BState.ofCode b.code = b := by cases b <;> rfl

@[simp] theorem Mode.ofCode_code (m : Mode) : Mode.ofCode m.code = m := by cases m <;> rfl

@[simp] theorem Phase.ofCode_code (p : Phase) : Phase.ofCode p.code = p := by cases p <;> rfl

@[simp] theorem Source.ofCode_code (s : Source) : Source.ofCode s.code = s := by cases s <;> rfl

theorem BState.code_ofCode : ∀ c : BitVec 2, (BState.ofCode c).code = c := by decide

theorem Mode.code_ofCode : ∀ c : BitVec 2, (Mode.ofCode c).code = c := by decide

theorem Phase.code_ofCode : ∀ c : BitVec 4, (Phase.ofCode c).code = c := by decide

theorem Source.code_ofCode : ∀ c : BitVec 2, (Source.ofCode c).code = c := by decide

section
variable (src : Source) (ph : Phase) (bs : BState) (md : Mode)

@[simp] theorem Sel.src_make : (Sel.make src ph bs md).src = src := by
  cases src <;> cases ph <;> cases bs <;> cases md <;> rfl

@[simp] theorem Sel.ph_make : (Sel.make src ph bs md).ph = ph := by
  cases src <;> cases ph <;> cases bs <;> cases md <;> rfl

@[simp] theorem Sel.bs_make : (Sel.make src ph bs md).bs = bs := by
  cases src <;> cases ph <;> cases bs <;> cases md <;> rfl

@[simp] theorem Sel.md_make : (Sel.make src ph bs md).md = md := by
  cases src <;> cases ph <;> cases bs <;> cases md <;> rfl

/-- Decoding a selector word made of four fields is decoding the fields. -/
@[simp] theorem decode_make : decode (Sel.make src ph bs md) = decodeFields src ph bs md := by
  simp [decode]

end

/-- A free agent never has the reserved source. -/
theorem Agent.source_ne_reserved (a : Agent) : a.source ≠ .reserved := by cases a <;> decide

end Sys2Proof
end

