-- ==== Sys2Proof/Laws/State.lean ====
section
/-!
SUPPORT. What each register write does to each field of State: one lemma per field per update, so that no
proof unfolds a record update.
-/

namespace Sys2Proof.Machine

section
variable (s : State) (v : Nat)
@[simp] theorem State.setSubdiv_cfg : (s.setSubdiv v).cfg = s.cfg := rfl
@[simp] theorem State.setSubdiv_env : (s.setSubdiv v).env = s.env := rfl
@[simp] theorem State.setSubdiv_subdiv : (s.setSubdiv v).subdiv = v := rfl
@[simp] theorem State.setSubdiv_tickflag : (s.setSubdiv v).tickflag = s.tickflag := rfl
@[simp] theorem State.setSubdiv_bstate : (s.setSubdiv v).bstate = s.bstate := rfl
@[simp] theorem State.setSubdiv_bpos : (s.setSubdiv v).bpos = s.bpos := rfl
@[simp] theorem State.setSubdiv_countdown : (s.setSubdiv v).countdown = s.countdown := rfl
@[simp] theorem State.setSubdiv_good : (s.setSubdiv v).good = s.good := rfl
@[simp] theorem State.setSubdiv_mode : (s.setSubdiv v).mode = s.mode := rfl
@[simp] theorem State.setSubdiv_mdelay : (s.setSubdiv v).mdelay = s.mdelay := rfl
@[simp] theorem State.setSubdiv_eidx : (s.setSubdiv v).eidx = s.eidx := rfl
@[simp] theorem State.setSubdiv_ecount : (s.setSubdiv v).ecount = s.ecount := rfl
@[simp] theorem State.setSubdiv_lastduty : (s.setSubdiv v).lastduty = s.lastduty := rfl
@[simp] theorem State.setSubdiv_statcnt : (s.setSubdiv v).statcnt = s.statcnt := rfl
@[simp] theorem State.setSubdiv_dphase : (s.setSubdiv v).dphase = s.dphase := rfl
@[simp] theorem State.setSubdiv_ocr : (s.setSubdiv v).ocr = s.ocr := rfl
@[simp] theorem State.setSubdiv_pwmclkEn : (s.setSubdiv v).pwmclkEn = s.pwmclkEn := rfl
@[simp] theorem State.setSubdiv_outEn : (s.setSubdiv v).outEn = s.outEn := rfl
@[simp] theorem State.setSubdiv_status : (s.setSubdiv v).status = s.status := rfl
end

section
variable (s : State) (v : Bool)
@[simp] theorem State.setTickflag_cfg : (s.setTickflag v).cfg = s.cfg := rfl
@[simp] theorem State.setTickflag_env : (s.setTickflag v).env = s.env := rfl
@[simp] theorem State.setTickflag_subdiv : (s.setTickflag v).subdiv = s.subdiv := rfl
@[simp] theorem State.setTickflag_tickflag : (s.setTickflag v).tickflag = v := rfl
@[simp] theorem State.setTickflag_bstate : (s.setTickflag v).bstate = s.bstate := rfl
@[simp] theorem State.setTickflag_bpos : (s.setTickflag v).bpos = s.bpos := rfl
@[simp] theorem State.setTickflag_countdown : (s.setTickflag v).countdown = s.countdown := rfl
@[simp] theorem State.setTickflag_good : (s.setTickflag v).good = s.good := rfl
@[simp] theorem State.setTickflag_mode : (s.setTickflag v).mode = s.mode := rfl
@[simp] theorem State.setTickflag_mdelay : (s.setTickflag v).mdelay = s.mdelay := rfl
@[simp] theorem State.setTickflag_eidx : (s.setTickflag v).eidx = s.eidx := rfl
@[simp] theorem State.setTickflag_ecount : (s.setTickflag v).ecount = s.ecount := rfl
@[simp] theorem State.setTickflag_lastduty : (s.setTickflag v).lastduty = s.lastduty := rfl
@[simp] theorem State.setTickflag_statcnt : (s.setTickflag v).statcnt = s.statcnt := rfl
@[simp] theorem State.setTickflag_dphase : (s.setTickflag v).dphase = s.dphase := rfl
@[simp] theorem State.setTickflag_ocr : (s.setTickflag v).ocr = s.ocr := rfl
@[simp] theorem State.setTickflag_pwmclkEn : (s.setTickflag v).pwmclkEn = s.pwmclkEn := rfl
@[simp] theorem State.setTickflag_outEn : (s.setTickflag v).outEn = s.outEn := rfl
@[simp] theorem State.setTickflag_status : (s.setTickflag v).status = s.status := rfl
end

section
variable (s : State) (v : BState)
@[simp] theorem State.setBstate_cfg : (s.setBstate v).cfg = s.cfg := rfl
@[simp] theorem State.setBstate_env : (s.setBstate v).env = s.env := rfl
@[simp] theorem State.setBstate_subdiv : (s.setBstate v).subdiv = s.subdiv := rfl
@[simp] theorem State.setBstate_tickflag : (s.setBstate v).tickflag = s.tickflag := rfl
@[simp] theorem State.setBstate_bstate : (s.setBstate v).bstate = v := rfl
@[simp] theorem State.setBstate_bpos : (s.setBstate v).bpos = s.bpos := rfl
@[simp] theorem State.setBstate_countdown : (s.setBstate v).countdown = s.countdown := rfl
@[simp] theorem State.setBstate_good : (s.setBstate v).good = s.good := rfl
@[simp] theorem State.setBstate_mode : (s.setBstate v).mode = s.mode := rfl
@[simp] theorem State.setBstate_mdelay : (s.setBstate v).mdelay = s.mdelay := rfl
@[simp] theorem State.setBstate_eidx : (s.setBstate v).eidx = s.eidx := rfl
@[simp] theorem State.setBstate_ecount : (s.setBstate v).ecount = s.ecount := rfl
@[simp] theorem State.setBstate_lastduty : (s.setBstate v).lastduty = s.lastduty := rfl
@[simp] theorem State.setBstate_statcnt : (s.setBstate v).statcnt = s.statcnt := rfl
@[simp] theorem State.setBstate_dphase : (s.setBstate v).dphase = s.dphase := rfl
@[simp] theorem State.setBstate_ocr : (s.setBstate v).ocr = s.ocr := rfl
@[simp] theorem State.setBstate_pwmclkEn : (s.setBstate v).pwmclkEn = s.pwmclkEn := rfl
@[simp] theorem State.setBstate_outEn : (s.setBstate v).outEn = s.outEn := rfl
@[simp] theorem State.setBstate_status : (s.setBstate v).status = s.status := rfl
end

section
variable (s : State) (v : BPos)
@[simp] theorem State.setBpos_cfg : (s.setBpos v).cfg = s.cfg := rfl
@[simp] theorem State.setBpos_env : (s.setBpos v).env = s.env := rfl
@[simp] theorem State.setBpos_subdiv : (s.setBpos v).subdiv = s.subdiv := rfl
@[simp] theorem State.setBpos_tickflag : (s.setBpos v).tickflag = s.tickflag := rfl
@[simp] theorem State.setBpos_bstate : (s.setBpos v).bstate = s.bstate := rfl
@[simp] theorem State.setBpos_bpos : (s.setBpos v).bpos = v := rfl
@[simp] theorem State.setBpos_countdown : (s.setBpos v).countdown = s.countdown := rfl
@[simp] theorem State.setBpos_good : (s.setBpos v).good = s.good := rfl
@[simp] theorem State.setBpos_mode : (s.setBpos v).mode = s.mode := rfl
@[simp] theorem State.setBpos_mdelay : (s.setBpos v).mdelay = s.mdelay := rfl
@[simp] theorem State.setBpos_eidx : (s.setBpos v).eidx = s.eidx := rfl
@[simp] theorem State.setBpos_ecount : (s.setBpos v).ecount = s.ecount := rfl
@[simp] theorem State.setBpos_lastduty : (s.setBpos v).lastduty = s.lastduty := rfl
@[simp] theorem State.setBpos_statcnt : (s.setBpos v).statcnt = s.statcnt := rfl
@[simp] theorem State.setBpos_dphase : (s.setBpos v).dphase = s.dphase := rfl
@[simp] theorem State.setBpos_ocr : (s.setBpos v).ocr = s.ocr := rfl
@[simp] theorem State.setBpos_pwmclkEn : (s.setBpos v).pwmclkEn = s.pwmclkEn := rfl
@[simp] theorem State.setBpos_outEn : (s.setBpos v).outEn = s.outEn := rfl
@[simp] theorem State.setBpos_status : (s.setBpos v).status = s.status := rfl
end

section
variable (s : State) (v : Nat)
@[simp] theorem State.setCountdown_cfg : (s.setCountdown v).cfg = s.cfg := rfl
@[simp] theorem State.setCountdown_env : (s.setCountdown v).env = s.env := rfl
@[simp] theorem State.setCountdown_subdiv : (s.setCountdown v).subdiv = s.subdiv := rfl
@[simp] theorem State.setCountdown_tickflag : (s.setCountdown v).tickflag = s.tickflag := rfl
@[simp] theorem State.setCountdown_bstate : (s.setCountdown v).bstate = s.bstate := rfl
@[simp] theorem State.setCountdown_bpos : (s.setCountdown v).bpos = s.bpos := rfl
@[simp] theorem State.setCountdown_countdown : (s.setCountdown v).countdown = v := rfl
@[simp] theorem State.setCountdown_good : (s.setCountdown v).good = s.good := rfl
@[simp] theorem State.setCountdown_mode : (s.setCountdown v).mode = s.mode := rfl
@[simp] theorem State.setCountdown_mdelay : (s.setCountdown v).mdelay = s.mdelay := rfl
@[simp] theorem State.setCountdown_eidx : (s.setCountdown v).eidx = s.eidx := rfl
@[simp] theorem State.setCountdown_ecount : (s.setCountdown v).ecount = s.ecount := rfl
@[simp] theorem State.setCountdown_lastduty : (s.setCountdown v).lastduty = s.lastduty := rfl
@[simp] theorem State.setCountdown_statcnt : (s.setCountdown v).statcnt = s.statcnt := rfl
@[simp] theorem State.setCountdown_dphase : (s.setCountdown v).dphase = s.dphase := rfl
@[simp] theorem State.setCountdown_ocr : (s.setCountdown v).ocr = s.ocr := rfl
@[simp] theorem State.setCountdown_pwmclkEn : (s.setCountdown v).pwmclkEn = s.pwmclkEn := rfl
@[simp] theorem State.setCountdown_outEn : (s.setCountdown v).outEn = s.outEn := rfl
@[simp] theorem State.setCountdown_status : (s.setCountdown v).status = s.status := rfl
end

section
variable (s : State) (v : Nat)
@[simp] theorem State.setGood_cfg : (s.setGood v).cfg = s.cfg := rfl
@[simp] theorem State.setGood_env : (s.setGood v).env = s.env := rfl
@[simp] theorem State.setGood_subdiv : (s.setGood v).subdiv = s.subdiv := rfl
@[simp] theorem State.setGood_tickflag : (s.setGood v).tickflag = s.tickflag := rfl
@[simp] theorem State.setGood_bstate : (s.setGood v).bstate = s.bstate := rfl
@[simp] theorem State.setGood_bpos : (s.setGood v).bpos = s.bpos := rfl
@[simp] theorem State.setGood_countdown : (s.setGood v).countdown = s.countdown := rfl
@[simp] theorem State.setGood_good : (s.setGood v).good = v := rfl
@[simp] theorem State.setGood_mode : (s.setGood v).mode = s.mode := rfl
@[simp] theorem State.setGood_mdelay : (s.setGood v).mdelay = s.mdelay := rfl
@[simp] theorem State.setGood_eidx : (s.setGood v).eidx = s.eidx := rfl
@[simp] theorem State.setGood_ecount : (s.setGood v).ecount = s.ecount := rfl
@[simp] theorem State.setGood_lastduty : (s.setGood v).lastduty = s.lastduty := rfl
@[simp] theorem State.setGood_statcnt : (s.setGood v).statcnt = s.statcnt := rfl
@[simp] theorem State.setGood_dphase : (s.setGood v).dphase = s.dphase := rfl
@[simp] theorem State.setGood_ocr : (s.setGood v).ocr = s.ocr := rfl
@[simp] theorem State.setGood_pwmclkEn : (s.setGood v).pwmclkEn = s.pwmclkEn := rfl
@[simp] theorem State.setGood_outEn : (s.setGood v).outEn = s.outEn := rfl
@[simp] theorem State.setGood_status : (s.setGood v).status = s.status := rfl
end

section
variable (s : State) (v : Mode)
@[simp] theorem State.setMode_cfg : (s.setMode v).cfg = s.cfg := rfl
@[simp] theorem State.setMode_env : (s.setMode v).env = s.env := rfl
@[simp] theorem State.setMode_subdiv : (s.setMode v).subdiv = s.subdiv := rfl
@[simp] theorem State.setMode_tickflag : (s.setMode v).tickflag = s.tickflag := rfl
@[simp] theorem State.setMode_bstate : (s.setMode v).bstate = s.bstate := rfl
@[simp] theorem State.setMode_bpos : (s.setMode v).bpos = s.bpos := rfl
@[simp] theorem State.setMode_countdown : (s.setMode v).countdown = s.countdown := rfl
@[simp] theorem State.setMode_good : (s.setMode v).good = s.good := rfl
@[simp] theorem State.setMode_mode : (s.setMode v).mode = v := rfl
@[simp] theorem State.setMode_mdelay : (s.setMode v).mdelay = s.mdelay := rfl
@[simp] theorem State.setMode_eidx : (s.setMode v).eidx = s.eidx := rfl
@[simp] theorem State.setMode_ecount : (s.setMode v).ecount = s.ecount := rfl
@[simp] theorem State.setMode_lastduty : (s.setMode v).lastduty = s.lastduty := rfl
@[simp] theorem State.setMode_statcnt : (s.setMode v).statcnt = s.statcnt := rfl
@[simp] theorem State.setMode_dphase : (s.setMode v).dphase = s.dphase := rfl
@[simp] theorem State.setMode_ocr : (s.setMode v).ocr = s.ocr := rfl
@[simp] theorem State.setMode_pwmclkEn : (s.setMode v).pwmclkEn = s.pwmclkEn := rfl
@[simp] theorem State.setMode_outEn : (s.setMode v).outEn = s.outEn := rfl
@[simp] theorem State.setMode_status : (s.setMode v).status = s.status := rfl
end

section
variable (s : State) (v : Nat)
@[simp] theorem State.setMdelay_cfg : (s.setMdelay v).cfg = s.cfg := rfl
@[simp] theorem State.setMdelay_env : (s.setMdelay v).env = s.env := rfl
@[simp] theorem State.setMdelay_subdiv : (s.setMdelay v).subdiv = s.subdiv := rfl
@[simp] theorem State.setMdelay_tickflag : (s.setMdelay v).tickflag = s.tickflag := rfl
@[simp] theorem State.setMdelay_bstate : (s.setMdelay v).bstate = s.bstate := rfl
@[simp] theorem State.setMdelay_bpos : (s.setMdelay v).bpos = s.bpos := rfl
@[simp] theorem State.setMdelay_countdown : (s.setMdelay v).countdown = s.countdown := rfl
@[simp] theorem State.setMdelay_good : (s.setMdelay v).good = s.good := rfl
@[simp] theorem State.setMdelay_mode : (s.setMdelay v).mode = s.mode := rfl
@[simp] theorem State.setMdelay_mdelay : (s.setMdelay v).mdelay = v := rfl
@[simp] theorem State.setMdelay_eidx : (s.setMdelay v).eidx = s.eidx := rfl
@[simp] theorem State.setMdelay_ecount : (s.setMdelay v).ecount = s.ecount := rfl
@[simp] theorem State.setMdelay_lastduty : (s.setMdelay v).lastduty = s.lastduty := rfl
@[simp] theorem State.setMdelay_statcnt : (s.setMdelay v).statcnt = s.statcnt := rfl
@[simp] theorem State.setMdelay_dphase : (s.setMdelay v).dphase = s.dphase := rfl
@[simp] theorem State.setMdelay_ocr : (s.setMdelay v).ocr = s.ocr := rfl
@[simp] theorem State.setMdelay_pwmclkEn : (s.setMdelay v).pwmclkEn = s.pwmclkEn := rfl
@[simp] theorem State.setMdelay_outEn : (s.setMdelay v).outEn = s.outEn := rfl
@[simp] theorem State.setMdelay_status : (s.setMdelay v).status = s.status := rfl
end

section
variable (s : State) (v : Nat)
@[simp] theorem State.setEidx_cfg : (s.setEidx v).cfg = s.cfg := rfl
@[simp] theorem State.setEidx_env : (s.setEidx v).env = s.env := rfl
@[simp] theorem State.setEidx_subdiv : (s.setEidx v).subdiv = s.subdiv := rfl
@[simp] theorem State.setEidx_tickflag : (s.setEidx v).tickflag = s.tickflag := rfl
@[simp] theorem State.setEidx_bstate : (s.setEidx v).bstate = s.bstate := rfl
@[simp] theorem State.setEidx_bpos : (s.setEidx v).bpos = s.bpos := rfl
@[simp] theorem State.setEidx_countdown : (s.setEidx v).countdown = s.countdown := rfl
@[simp] theorem State.setEidx_good : (s.setEidx v).good = s.good := rfl
@[simp] theorem State.setEidx_mode : (s.setEidx v).mode = s.mode := rfl
@[simp] theorem State.setEidx_mdelay : (s.setEidx v).mdelay = s.mdelay := rfl
@[simp] theorem State.setEidx_eidx : (s.setEidx v).eidx = v := rfl
@[simp] theorem State.setEidx_ecount : (s.setEidx v).ecount = s.ecount := rfl
@[simp] theorem State.setEidx_lastduty : (s.setEidx v).lastduty = s.lastduty := rfl
@[simp] theorem State.setEidx_statcnt : (s.setEidx v).statcnt = s.statcnt := rfl
@[simp] theorem State.setEidx_dphase : (s.setEidx v).dphase = s.dphase := rfl
@[simp] theorem State.setEidx_ocr : (s.setEidx v).ocr = s.ocr := rfl
@[simp] theorem State.setEidx_pwmclkEn : (s.setEidx v).pwmclkEn = s.pwmclkEn := rfl
@[simp] theorem State.setEidx_outEn : (s.setEidx v).outEn = s.outEn := rfl
@[simp] theorem State.setEidx_status : (s.setEidx v).status = s.status := rfl
end

section
variable (s : State) (v : Nat)
@[simp] theorem State.setLastduty_cfg : (s.setLastduty v).cfg = s.cfg := rfl
@[simp] theorem State.setLastduty_env : (s.setLastduty v).env = s.env := rfl
@[simp] theorem State.setLastduty_subdiv : (s.setLastduty v).subdiv = s.subdiv := rfl
@[simp] theorem State.setLastduty_tickflag : (s.setLastduty v).tickflag = s.tickflag := rfl
@[simp] theorem State.setLastduty_bstate : (s.setLastduty v).bstate = s.bstate := rfl
@[simp] theorem State.setLastduty_bpos : (s.setLastduty v).bpos = s.bpos := rfl
@[simp] theorem State.setLastduty_countdown : (s.setLastduty v).countdown = s.countdown := rfl
@[simp] theorem State.setLastduty_good : (s.setLastduty v).good = s.good := rfl
@[simp] theorem State.setLastduty_mode : (s.setLastduty v).mode = s.mode := rfl
@[simp] theorem State.setLastduty_mdelay : (s.setLastduty v).mdelay = s.mdelay := rfl
@[simp] theorem State.setLastduty_eidx : (s.setLastduty v).eidx = s.eidx := rfl
@[simp] theorem State.setLastduty_ecount : (s.setLastduty v).ecount = s.ecount := rfl
@[simp] theorem State.setLastduty_lastduty : (s.setLastduty v).lastduty = v := rfl
@[simp] theorem State.setLastduty_statcnt : (s.setLastduty v).statcnt = s.statcnt := rfl
@[simp] theorem State.setLastduty_dphase : (s.setLastduty v).dphase = s.dphase := rfl
@[simp] theorem State.setLastduty_ocr : (s.setLastduty v).ocr = s.ocr := rfl
@[simp] theorem State.setLastduty_pwmclkEn : (s.setLastduty v).pwmclkEn = s.pwmclkEn := rfl
@[simp] theorem State.setLastduty_outEn : (s.setLastduty v).outEn = s.outEn := rfl
@[simp] theorem State.setLastduty_status : (s.setLastduty v).status = s.status := rfl
end

section
variable (s : State) (v : Nat)
@[simp] theorem State.setStatcnt_cfg : (s.setStatcnt v).cfg = s.cfg := rfl
@[simp] theorem State.setStatcnt_env : (s.setStatcnt v).env = s.env := rfl
@[simp] theorem State.setStatcnt_subdiv : (s.setStatcnt v).subdiv = s.subdiv := rfl
@[simp] theorem State.setStatcnt_tickflag : (s.setStatcnt v).tickflag = s.tickflag := rfl
@[simp] theorem State.setStatcnt_bstate : (s.setStatcnt v).bstate = s.bstate := rfl
@[simp] theorem State.setStatcnt_bpos : (s.setStatcnt v).bpos = s.bpos := rfl
@[simp] theorem State.setStatcnt_countdown : (s.setStatcnt v).countdown = s.countdown := rfl
@[simp] theorem State.setStatcnt_good : (s.setStatcnt v).good = s.good := rfl
@[simp] theorem State.setStatcnt_mode : (s.setStatcnt v).mode = s.mode := rfl
@[simp] theorem State.setStatcnt_mdelay : (s.setStatcnt v).mdelay = s.mdelay := rfl
@[simp] theorem State.setStatcnt_eidx : (s.setStatcnt v).eidx = s.eidx := rfl
@[simp] theorem State.setStatcnt_ecount : (s.setStatcnt v).ecount = s.ecount := rfl
@[simp] theorem State.setStatcnt_lastduty : (s.setStatcnt v).lastduty = s.lastduty := rfl
@[simp] theorem State.setStatcnt_statcnt : (s.setStatcnt v).statcnt = v := rfl
@[simp] theorem State.setStatcnt_dphase : (s.setStatcnt v).dphase = s.dphase := rfl
@[simp] theorem State.setStatcnt_ocr : (s.setStatcnt v).ocr = s.ocr := rfl
@[simp] theorem State.setStatcnt_pwmclkEn : (s.setStatcnt v).pwmclkEn = s.pwmclkEn := rfl
@[simp] theorem State.setStatcnt_outEn : (s.setStatcnt v).outEn = s.outEn := rfl
@[simp] theorem State.setStatcnt_status : (s.setStatcnt v).status = s.status := rfl
end

section
variable (s : State) (v : Phase)
@[simp] theorem State.setDphase_cfg : (s.setDphase v).cfg = s.cfg := rfl
@[simp] theorem State.setDphase_env : (s.setDphase v).env = s.env := rfl
@[simp] theorem State.setDphase_subdiv : (s.setDphase v).subdiv = s.subdiv := rfl
@[simp] theorem State.setDphase_tickflag : (s.setDphase v).tickflag = s.tickflag := rfl
@[simp] theorem State.setDphase_bstate : (s.setDphase v).bstate = s.bstate := rfl
@[simp] theorem State.setDphase_bpos : (s.setDphase v).bpos = s.bpos := rfl
@[simp] theorem State.setDphase_countdown : (s.setDphase v).countdown = s.countdown := rfl
@[simp] theorem State.setDphase_good : (s.setDphase v).good = s.good := rfl
@[simp] theorem State.setDphase_mode : (s.setDphase v).mode = s.mode := rfl
@[simp] theorem State.setDphase_mdelay : (s.setDphase v).mdelay = s.mdelay := rfl
@[simp] theorem State.setDphase_eidx : (s.setDphase v).eidx = s.eidx := rfl
@[simp] theorem State.setDphase_ecount : (s.setDphase v).ecount = s.ecount := rfl
@[simp] theorem State.setDphase_lastduty : (s.setDphase v).lastduty = s.lastduty := rfl
@[simp] theorem State.setDphase_statcnt : (s.setDphase v).statcnt = s.statcnt := rfl
@[simp] theorem State.setDphase_dphase : (s.setDphase v).dphase = v := rfl
@[simp] theorem State.setDphase_ocr : (s.setDphase v).ocr = s.ocr := rfl
@[simp] theorem State.setDphase_pwmclkEn : (s.setDphase v).pwmclkEn = s.pwmclkEn := rfl
@[simp] theorem State.setDphase_outEn : (s.setDphase v).outEn = s.outEn := rfl
@[simp] theorem State.setDphase_status : (s.setDphase v).status = s.status := rfl
end

section
variable (s : State) (v : Nat)
@[simp] theorem State.setOcr_cfg : (s.setOcr v).cfg = s.cfg := rfl
@[simp] theorem State.setOcr_env : (s.setOcr v).env = s.env := rfl
@[simp] theorem State.setOcr_subdiv : (s.setOcr v).subdiv = s.subdiv := rfl
@[simp] theorem State.setOcr_tickflag : (s.setOcr v).tickflag = s.tickflag := rfl
@[simp] theorem State.setOcr_bstate : (s.setOcr v).bstate = s.bstate := rfl
@[simp] theorem State.setOcr_bpos : (s.setOcr v).bpos = s.bpos := rfl
@[simp] theorem State.setOcr_countdown : (s.setOcr v).countdown = s.countdown := rfl
@[simp] theorem State.setOcr_good : (s.setOcr v).good = s.good := rfl
@[simp] theorem State.setOcr_mode : (s.setOcr v).mode = s.mode := rfl
@[simp] theorem State.setOcr_mdelay : (s.setOcr v).mdelay = s.mdelay := rfl
@[simp] theorem State.setOcr_eidx : (s.setOcr v).eidx = s.eidx := rfl
@[simp] theorem State.setOcr_ecount : (s.setOcr v).ecount = s.ecount := rfl
@[simp] theorem State.setOcr_lastduty : (s.setOcr v).lastduty = s.lastduty := rfl
@[simp] theorem State.setOcr_statcnt : (s.setOcr v).statcnt = s.statcnt := rfl
@[simp] theorem State.setOcr_dphase : (s.setOcr v).dphase = s.dphase := rfl
@[simp] theorem State.setOcr_ocr : (s.setOcr v).ocr = v := rfl
@[simp] theorem State.setOcr_pwmclkEn : (s.setOcr v).pwmclkEn = s.pwmclkEn := rfl
@[simp] theorem State.setOcr_outEn : (s.setOcr v).outEn = s.outEn := rfl
@[simp] theorem State.setOcr_status : (s.setOcr v).status = s.status := rfl
end

section
variable (s : State) (v : Bool)
@[simp] theorem State.setPwmclkEn_cfg : (s.setPwmclkEn v).cfg = s.cfg := rfl
@[simp] theorem State.setPwmclkEn_env : (s.setPwmclkEn v).env = s.env := rfl
@[simp] theorem State.setPwmclkEn_subdiv : (s.setPwmclkEn v).subdiv = s.subdiv := rfl
@[simp] theorem State.setPwmclkEn_tickflag : (s.setPwmclkEn v).tickflag = s.tickflag := rfl
@[simp] theorem State.setPwmclkEn_bstate : (s.setPwmclkEn v).bstate = s.bstate := rfl
@[simp] theorem State.setPwmclkEn_bpos : (s.setPwmclkEn v).bpos = s.bpos := rfl
@[simp] theorem State.setPwmclkEn_countdown : (s.setPwmclkEn v).countdown = s.countdown := rfl
@[simp] theorem State.setPwmclkEn_good : (s.setPwmclkEn v).good = s.good := rfl
@[simp] theorem State.setPwmclkEn_mode : (s.setPwmclkEn v).mode = s.mode := rfl
@[simp] theorem State.setPwmclkEn_mdelay : (s.setPwmclkEn v).mdelay = s.mdelay := rfl
@[simp] theorem State.setPwmclkEn_eidx : (s.setPwmclkEn v).eidx = s.eidx := rfl
@[simp] theorem State.setPwmclkEn_ecount : (s.setPwmclkEn v).ecount = s.ecount := rfl
@[simp] theorem State.setPwmclkEn_lastduty : (s.setPwmclkEn v).lastduty = s.lastduty := rfl
@[simp] theorem State.setPwmclkEn_statcnt : (s.setPwmclkEn v).statcnt = s.statcnt := rfl
@[simp] theorem State.setPwmclkEn_dphase : (s.setPwmclkEn v).dphase = s.dphase := rfl
@[simp] theorem State.setPwmclkEn_ocr : (s.setPwmclkEn v).ocr = s.ocr := rfl
@[simp] theorem State.setPwmclkEn_pwmclkEn : (s.setPwmclkEn v).pwmclkEn = v := rfl
@[simp] theorem State.setPwmclkEn_outEn : (s.setPwmclkEn v).outEn = s.outEn := rfl
@[simp] theorem State.setPwmclkEn_status : (s.setPwmclkEn v).status = s.status := rfl
end

section
variable (s : State) (v : Bool)
@[simp] theorem State.setOutEn_cfg : (s.setOutEn v).cfg = s.cfg := rfl
@[simp] theorem State.setOutEn_env : (s.setOutEn v).env = s.env := rfl
@[simp] theorem State.setOutEn_subdiv : (s.setOutEn v).subdiv = s.subdiv := rfl
@[simp] theorem State.setOutEn_tickflag : (s.setOutEn v).tickflag = s.tickflag := rfl
@[simp] theorem State.setOutEn_bstate : (s.setOutEn v).bstate = s.bstate := rfl
@[simp] theorem State.setOutEn_bpos : (s.setOutEn v).bpos = s.bpos := rfl
@[simp] theorem State.setOutEn_countdown : (s.setOutEn v).countdown = s.countdown := rfl
@[simp] theorem State.setOutEn_good : (s.setOutEn v).good = s.good := rfl
@[simp] theorem State.setOutEn_mode : (s.setOutEn v).mode = s.mode := rfl
@[simp] theorem State.setOutEn_mdelay : (s.setOutEn v).mdelay = s.mdelay := rfl
@[simp] theorem State.setOutEn_eidx : (s.setOutEn v).eidx = s.eidx := rfl
@[simp] theorem State.setOutEn_ecount : (s.setOutEn v).ecount = s.ecount := rfl
@[simp] theorem State.setOutEn_lastduty : (s.setOutEn v).lastduty = s.lastduty := rfl
@[simp] theorem State.setOutEn_statcnt : (s.setOutEn v).statcnt = s.statcnt := rfl
@[simp] theorem State.setOutEn_dphase : (s.setOutEn v).dphase = s.dphase := rfl
@[simp] theorem State.setOutEn_ocr : (s.setOutEn v).ocr = s.ocr := rfl
@[simp] theorem State.setOutEn_pwmclkEn : (s.setOutEn v).pwmclkEn = s.pwmclkEn := rfl
@[simp] theorem State.setOutEn_outEn : (s.setOutEn v).outEn = v := rfl
@[simp] theorem State.setOutEn_status : (s.setOutEn v).status = s.status := rfl
end

section
variable (s : State) (v : Bool)
@[simp] theorem State.setStatus_cfg : (s.setStatus v).cfg = s.cfg := rfl
@[simp] theorem State.setStatus_env : (s.setStatus v).env = s.env := rfl
@[simp] theorem State.setStatus_subdiv : (s.setStatus v).subdiv = s.subdiv := rfl
@[simp] theorem State.setStatus_tickflag : (s.setStatus v).tickflag = s.tickflag := rfl
@[simp] theorem State.setStatus_bstate : (s.setStatus v).bstate = s.bstate := rfl
@[simp] theorem State.setStatus_bpos : (s.setStatus v).bpos = s.bpos := rfl
@[simp] theorem State.setStatus_countdown : (s.setStatus v).countdown = s.countdown := rfl
@[simp] theorem State.setStatus_good : (s.setStatus v).good = s.good := rfl
@[simp] theorem State.setStatus_mode : (s.setStatus v).mode = s.mode := rfl
@[simp] theorem State.setStatus_mdelay : (s.setStatus v).mdelay = s.mdelay := rfl
@[simp] theorem State.setStatus_eidx : (s.setStatus v).eidx = s.eidx := rfl
@[simp] theorem State.setStatus_ecount : (s.setStatus v).ecount = s.ecount := rfl
@[simp] theorem State.setStatus_lastduty : (s.setStatus v).lastduty = s.lastduty := rfl
@[simp] theorem State.setStatus_statcnt : (s.setStatus v).statcnt = s.statcnt := rfl
@[simp] theorem State.setStatus_dphase : (s.setStatus v).dphase = s.dphase := rfl
@[simp] theorem State.setStatus_ocr : (s.setStatus v).ocr = s.ocr := rfl
@[simp] theorem State.setStatus_pwmclkEn : (s.setStatus v).pwmclkEn = s.pwmclkEn := rfl
@[simp] theorem State.setStatus_outEn : (s.setStatus v).outEn = s.outEn := rfl
@[simp] theorem State.setStatus_status : (s.setStatus v).status = v := rfl
end

section
variable (s : State) (v : Env)
@[simp] theorem State.setEnv_cfg : (s.setEnv v).cfg = s.cfg := rfl
@[simp] theorem State.setEnv_env : (s.setEnv v).env = v := rfl
@[simp] theorem State.setEnv_subdiv : (s.setEnv v).subdiv = s.subdiv := rfl
@[simp] theorem State.setEnv_tickflag : (s.setEnv v).tickflag = s.tickflag := rfl
@[simp] theorem State.setEnv_bstate : (s.setEnv v).bstate = s.bstate := rfl
@[simp] theorem State.setEnv_bpos : (s.setEnv v).bpos = s.bpos := rfl
@[simp] theorem State.setEnv_countdown : (s.setEnv v).countdown = s.countdown := rfl
@[simp] theorem State.setEnv_good : (s.setEnv v).good = s.good := rfl
@[simp] theorem State.setEnv_mode : (s.setEnv v).mode = s.mode := rfl
@[simp] theorem State.setEnv_mdelay : (s.setEnv v).mdelay = s.mdelay := rfl
@[simp] theorem State.setEnv_eidx : (s.setEnv v).eidx = s.eidx := rfl
@[simp] theorem State.setEnv_ecount : (s.setEnv v).ecount = s.ecount := rfl
@[simp] theorem State.setEnv_lastduty : (s.setEnv v).lastduty = s.lastduty := rfl
@[simp] theorem State.setEnv_statcnt : (s.setEnv v).statcnt = s.statcnt := rfl
@[simp] theorem State.setEnv_dphase : (s.setEnv v).dphase = s.dphase := rfl
@[simp] theorem State.setEnv_ocr : (s.setEnv v).ocr = s.ocr := rfl
@[simp] theorem State.setEnv_pwmclkEn : (s.setEnv v).pwmclkEn = s.pwmclkEn := rfl
@[simp] theorem State.setEnv_outEn : (s.setEnv v).outEn = s.outEn := rfl
@[simp] theorem State.setEnv_status : (s.setEnv v).status = s.status := rfl
end

end Sys2Proof.Machine
end

