-- ==== Sys2Proof/Laws/Ops.lean ====
section
/-!
SUPPORT. One lemma per shared operation that says once everything it can do.
-/

namespace Sys2Proof.Machine

/-! ### The environment -/

@[simp] theorem envNow_cons (x : Input) (r : List Input) (d : Nat) : envNow ⟨x :: r, d⟩ = x := rfl

@[simp] theorem envNow_nil (d : Nat) : envNow ⟨[], d⟩ = freeInput d := rfl

@[simp] theorem envNext_cons (x : Input) (r : List Input) (d : Nat) : envNext ⟨x :: r, d⟩ = ⟨r, d⟩ := rfl

@[simp] theorem envNext_nil (d : Nat) : envNext ⟨[], d⟩ = ⟨[], d + 1⟩ := rfl

theorem freeInput_src_ne_reserved (n : Nat) : (freeInput n).src ≠ .reserved := Agent.source_ne_reserved _

/-! ### Operands -/

theorem target_eq_pressed_iff (s : State) : target s = .pressed ↔ s.bpos = .released := by
  unfold target; cases s.bpos <;> decide

theorem upCount_lt {k x : Nat} (h : x < k) : upCount k x < k := by
  unfold upCount; split <;> omega

theorem incMod_lt {k : Nat} (x : Nat) (h : 1 ≤ k) : incMod k x < k := Nat.mod_lt _ h

theorem trunc_lt (n v : Nat) : trunc n v < 2 ^ n := Nat.mod_lt _ (Nat.two_pow_pos n)

theorem modeAdvance_off : modeAdvance .off = .max := by decide

theorem modeAdvance_max : modeAdvance .max = .blink := by decide

theorem modeAdvance_blink : modeAdvance .blink = .off := by decide

/-- In a configuration of R8, `TblRead` in range answers the table's entry. -/
theorem tblRead_eq {c : Config} {i : Nat} (hl : c.effect.length = c.effectLen) (hi : i < c.effectLen) :
    tblRead c i = some (c.effect[i]'(hl ▸ hi)) := by
  simp [tblRead, hi, hl]

/-! ### Admitted states -/

/-- Everything an admitted state satisfies. -/
theorem stateRefusal_eq_none_iff (s : State) :
    stateRefusal s = none ↔
      s.cfg.wf = true ∧ s.mode ≠ .reserved ∧ phaseReserved s.dphase = false ∧ inRange s = true := by
  unfold stateRefusal
  split
  · simp_all
  · split
    · simp_all
    · split
      · simp_all
      · split <;> simp_all

theorem inRange_iff (s : State) :
    inRange s = true ↔
      s.subdiv < s.cfg.tickDiv ∧ s.eidx < s.cfg.effectLen ∧ s.statcnt < s.cfg.statusDiv ∧
        s.mdelay ≤ s.cfg.blinkDelay ∧ s.ocr < 2 ^ s.cfg.dutyW ∧ s.countdown < 2 ^ s.cfg.cntW ∧
        s.good < 2 ^ s.cfg.cntW ∧ s.lastduty < 2 ^ s.cfg.cntW := by
  simp [inRange, Config.fits, and_assoc]

/-- Everything a configuration of R8 satisfies. -/
theorem config_wf_iff (c : Config) :
    c.wf = true ↔
      1 ≤ c.tickDiv ∧ 1 ≤ c.effectLen ∧ c.effect.length = c.effectLen ∧ 1 ≤ c.maxDuty ∧
        c.maxDuty ≤ 2 ^ c.dutyW ∧ 1 ≤ c.dutyW ∧ 1 ≤ c.statusDiv ∧ c.tickDiv < 2 ^ c.cntW ∧
        c.pressTimeout < 2 ^ c.cntW ∧ c.releaseTimeout < 2 ^ c.cntW ∧ c.blinkDelay < 2 ^ c.cntW ∧
        c.effectLen < 2 ^ c.cntW ∧ c.statusDiv < 2 ^ c.cntW ∧ (∀ e ∈ c.effect, e < 2 ^ c.cntW) ∧
        c.maxModeDuty < 2 ^ c.cntW := by
  simp [Config.wf, Config.cntWide, Config.fits, and_assoc]

/-! ### Performing an operation -/

/-- An admitted state performs an enabled operation: its body runs. -/
theorem perform_of_enabled {i : Instr} {s : State} (ha : stateRefusal s = none) (he : enabled i s = true)
    (body : State → Result) : perform i s body = body s := by
  simp [perform, ha, he]

/-- If an operation is performed, the state was admitted, the operation enabled, and the body answered. -/
theorem perform_eq_next {i : Instr} {s t : State} {body : State → Result}
    (h : perform i s body = .next t) : stateRefusal s = none ∧ enabled i s = true ∧ body s = .next t := by
  unfold perform at h
  split at h
  · cases h
  · split at h
    · exact ⟨‹_›, ‹_›, h⟩
    · cases h

/-- A disabled operation of an admitted state is refused by name. -/
theorem perform_of_disabled {i : Instr} {s : State} (ha : stateRefusal s = none) (he : enabled i s = false)
    (body : State → Result) : perform i s body = .refused (.notEnabled i.mnemonic) := by
  simp [perform, ha, he]

/-! ### Interrupts and wake -/

/-- All that `wake` does: the phase `P_ASLEEP` becomes `P_POLL`. -/
theorem wake_eq (s : State) : wake s = { s with dphase := if s.dphase = .asleep then .poll else s.dphase } := by
  unfold wake
  split <;> simp [State.setDphase]

/-- All that taking an interrupt does beyond the handler's own effect. -/
theorem takeInterrupt_eq (f : State → State) (s : State) :
    takeInterrupt f s =
      { f s with dphase := if (f s).dphase = .asleep then .poll else (f s).dphase } :=
  wake_eq (f s)

/-! ### Output writes and the delay gate -/

theorem setLevel_eq (s : State) (v : Nat) : setLevel s v = { s with ocr := v % 2 ^ s.cfg.dutyW } := rfl

theorem outEnable_eq (s : State) : outEnable s = { s with outEn := true } := rfl

theorem outDisable_eq (s : State) : outDisable s = { s with outEn := false } := rfl

/-- A held tick decrements the delay and moves on; nothing else. -/
theorem gate_held {s : State} (h : s.mdelay ≠ 0) (work : State → Result) :
    gate s work = .next { s with mdelay := s.mdelay - 1, dphase := .status } := by
  simp [gate, h, State.setMdelay, State.setDphase]

/-- An open gate lets the mode's work run. -/
theorem gate_open {s : State} (h : s.mdelay = 0) (work : State → Result) : gate s work = work s := by
  simp [gate, h]

/-! ### Selecting an operation -/

/-- The selector of the present step decodes as its four fields do. -/
theorem decode_selNow (s : State) :
    decode (selNow s) = decodeFields (sourceNow s) s.dphase s.bstate s.mode := by
  simp [selNow]

/-- If a step selects an operation, the selector decodes to it, and `START` found its flag. -/
theorem select_eq_operation {s : State} {i : Instr} (h : select s = .operation i) :
    decode (selNow s) = .ok i ∧ (i = .start → tickPending s = true) := by
  unfold select at h
  split at h
  · rename_i e _
    cases e <;> simp [selectionOfError] at h
  · split at h
    · cases h
    · injection h with h
      subst h
      refine ⟨‹_›, fun hs => ?_⟩
      rename_i hn
      simpa [hs] using hn

@[simp] theorem advanceResult_next (s : State) : advanceResult (.next s) = .next (advanceEnv s) := rfl

@[simp] theorem advanceResult_refused (r : Refusal) : advanceResult (.refused r) = .refused r := rfl

theorem advanceEnv_eq (s : State) : advanceEnv s = { s with env := envNext s.env } := rfl

end Sys2Proof.Machine
end

