-- ==== Sys2Proof/Laws/PerInstr.lean ====
section
/-!
SUPPORT. Statements about every operation as syntax, one lemma per constructor.
-/

namespace Sys2Proof.Laws

/-- Every word the encoder writes for `i` matches the row of `i` (spec/30_encoding.md R88). -/
def EncodesItsRow.Statement (i : Instr) : Prop := i.wf = true ∧ ∀ rest : Sel, i.matches (encodeWith i rest) = true

/-- A row whose match value has no bit outside its mask is matched by every word written from it. -/
theorem encodes_its_row (i : Instr) (h : i.row.bits &&& i.row.mask = i.row.bits) (rest : Sel) :
    i.matches (encodeWith i rest) = true := by
  have off : rest &&& ~~~i.row.mask &&& i.row.mask = 0#10 := by
    rw [BitVec.and_assoc, BitVec.and_comm (~~~i.row.mask), BitVec.and_not_self]
    simp
  simp [Instr.matches, encodeWith, BitVec.and_or_distrib_right, h, off]

theorem EncodesItsRow.tov : EncodesItsRow.Statement .tov := ⟨rfl, encodes_its_row .tov (by decide)⟩

theorem EncodesItsRow.pci : EncodesItsRow.Statement .pci := ⟨rfl, encodes_its_row .pci (by decide)⟩

theorem EncodesItsRow.start : EncodesItsRow.Statement .start := ⟨rfl, encodes_its_row .start (by decide)⟩

theorem EncodesItsRow.dbIdle : EncodesItsRow.Statement .dbIdle := ⟨rfl, encodes_its_row .dbIdle (by decide)⟩

theorem EncodesItsRow.dbArm : EncodesItsRow.Statement .dbArm := ⟨rfl, encodes_its_row .dbArm (by decide)⟩

theorem EncodesItsRow.dbRun : EncodesItsRow.Statement .dbRun := ⟨rfl, encodes_its_row .dbRun (by decide)⟩

theorem EncodesItsRow.dbCommit : EncodesItsRow.Statement .dbCommit := ⟨rfl, encodes_its_row .dbCommit (by decide)⟩

theorem EncodesItsRow.mOff : EncodesItsRow.Statement .mOff := ⟨rfl, encodes_its_row .mOff (by decide)⟩

theorem EncodesItsRow.mMax : EncodesItsRow.Statement .mMax := ⟨rfl, encodes_its_row .mMax (by decide)⟩

theorem EncodesItsRow.mBlink : EncodesItsRow.Statement .mBlink := ⟨rfl, encodes_its_row .mBlink (by decide)⟩

theorem EncodesItsRow.pdClk : EncodesItsRow.Statement .pdClk := ⟨rfl, encodes_its_row .pdClk (by decide)⟩

theorem EncodesItsRow.pdDrv : EncodesItsRow.Statement .pdDrv := ⟨rfl, encodes_its_row .pdDrv (by decide)⟩

theorem EncodesItsRow.pdLed : EncodesItsRow.Statement .pdLed := ⟨rfl, encodes_its_row .pdLed (by decide)⟩

theorem EncodesItsRow.sleep : EncodesItsRow.Statement .sleep := ⟨rfl, encodes_its_row .sleep (by decide)⟩

theorem EncodesItsRow.poll : EncodesItsRow.Statement .poll := ⟨rfl, encodes_its_row .poll (by decide)⟩

theorem EncodesItsRow.puDrv : EncodesItsRow.Statement .puDrv := ⟨rfl, encodes_its_row .puDrv (by decide)⟩

theorem EncodesItsRow.puClk : EncodesItsRow.Statement .puClk := ⟨rfl, encodes_its_row .puClk (by decide)⟩

theorem EncodesItsRow.stat : EncodesItsRow.Statement .stat := ⟨rfl, encodes_its_row .stat (by decide)⟩

theorem EncodesItsRow.clr : EncodesItsRow.Statement .clr := ⟨rfl, encodes_its_row .clr (by decide)⟩

end Sys2Proof.Laws
end

