-- ==== Sys2Proof/Laws/Step.lean ====
section
/-!
SUPPORT. What a step can do, said once.
-/

namespace Sys2Proof.Machine

/-- If a step answers a next state, the state was admitted, and the step either held, changing nothing but the
environment, or performed the selected operation. -/
theorem step_eq_next {s t : State} (h : step s = .next t) :
    stateRefusal s = none ∧
      ((select s = .hold ∧ t = advanceEnv s) ∨
        ∃ i u, select s = .operation i ∧ exec i s = .next u ∧ t = advanceEnv u) := by
  unfold step at h
  split at h
  · cases h
  · refine ⟨‹_›, ?_⟩
    split at h
    · rename_i i hsel
      cases hx : exec i s with
      | next u =>
        rw [hx] at h
        injection h with h
        exact .inr ⟨i, u, hsel, hx, h.symm⟩
      | fault r => exact nomatch r
      | refused r => rw [hx] at h; cases h
    · injection h with h
      exact .inl ⟨‹_›, h.symm⟩
    · cases h

/-- A run of `n + 1` steps whose first step answers `u` is a run of `n` steps from `u`. -/
theorem run_of_step {n : Nat} {s u : State} (h : step s = .next u) :
    Host.Core.run Sys2Proof.core (n + 1) s = Host.Core.run Sys2Proof.core n u := by
  have unrolled (M : Host.Core) (a b : M.State) (ha : M.step a = .next b) : M.run (n + 1) a = M.run n b := by
    simp [Host.Core.run, ha]
  exact unrolled Sys2Proof.core s u h

/-- A run whose first step is refused is refused. -/
theorem run_of_refused {n : Nat} {s : State} {r : Refusal} (h : step s = .refused r) :
    Host.Core.run Sys2Proof.core (n + 1) s = .refused r := by
  have unrolled (M : Host.Core) (a : M.State) (q : M.Refusal) (ha : M.step a = .refused q) :
      M.run (n + 1) a = .refused q := by
    simp [Host.Core.run, ha]
  exact unrolled Sys2Proof.core s r h

end Sys2Proof.Machine
end

