-- ==== Sys2Proof/Laws/Stimulus.lean ====
section
/-!
SUPPORT. What the actions of the test bench do, said once.
-/

namespace Sys2Proof.Machine

@[simp] theorem benchThen_next (b : Bench) (f : Bench → BenchResult) : benchThen (.next b) f = f b := rfl

@[simp] theorem offer_env (src : Source) (b : Bench) :
    (offer src b).env = ⟨[⟨src, b.pin⟩], b.block.env.draws⟩ := rfl

/-- Placing an input changes no register, so it does not change whether the block is admitted. -/
@[simp] theorem stateRefusal_offer (src : Source) (b : Bench) :
    stateRefusal (offer src b) = stateRefusal b.block := rfl

/-- All that an action does: the step, and one line of the trace. -/
theorem act_of_step {src : Source} {b : Bench} {t : State} (h : step (offer src b) = .next t) :
    act src b = .next
      { b with block := t
               trace := b.trace ++ [⟨stepMark (offer src b), selNow (offer src b), t⟩] } := by
  simp [act, h]

theorem repeatAct_zero (f : Bench → BenchResult) (b : Bench) : repeatAct f 0 b = .next b := rfl

theorem repeatAct_succ (f : Bench → BenchResult) (n : Nat) (b : Bench) :
    repeatAct f (n + 1) b = benchThen (f b) (repeatAct f n) := rfl

/-- A script runs its first part, then its second. -/
theorem runScript_append (xs ys : List Token) (b : Bench) :
    runScript (xs ++ ys) b = benchThen (runScript xs b) (runScript ys) := by
  induction xs generalizing b with
  | nil => rfl
  | cons x xs ih =>
    simp only [List.cons_append, runScript]
    cases runToken x b with
    | next b' => exact ih b'
    | fault r => rfl
    | refused r => rfl

end Sys2Proof.Machine
end

