-- ==== Sys2Proof/Tests/Slice0.lean ====
section
/-!
SUPPORT. The model's own tests: the checks of WellFormed, one word per operation written out from
spec/30_encoding.md R88, one or two steps per operation with the expected values of spec/95_test_vectors.md,
and for every statement that has hypotheses a concrete state that meets them.
-/

namespace Sys2Proof.Tests

open Sys2Proof.Machine

/-! ### Helpers -/

/-- The reset state in the reference configuration. -/
def ref : State := State.reset

/-- A state with the next input fixed: who acts, and the level of `btn_n`. -/
def given (src : Source) (l : Level) (s : State) : State := s.setEnv ⟨[⟨src, l⟩], 0⟩

/-- A state in a phase of a pass: `TICKFLAG` is 1 there. -/
def inPass (p : Phase) (s : State) : State := (s.setDphase p).setTickflag true

/-- The next state, where there is one. -/
def nextOf : Result → Option State
  | .next s => some s
  | .fault _ => none
  | .refused _ => none

/-- The refusal, where there is one. -/
def refusalOf : Result → Option Refusal
  | .next _ => none
  | .fault _ => none
  | .refused r => some r

/-- The bench a script ends with, where it ends. -/
def benchOf? : BenchResult → Option Bench
  | .next b => some b
  | .fault _ => none
  | .refused _ => none

/-! ### WellFormed: each constraint of spec/00_scope.md R8 refuses a configuration that breaks it -/

theorem test_ref_is_wellFormed : Config.ref.wf = true := by decide

theorem test_p1_tickDiv_zero_refused : { Config.ref with tickDiv := 0 }.wf = false := by decide

theorem test_p5_effectLen_zero_refused :
    { Config.ref with effectLen := 0, effect := [] }.wf = false := by decide

theorem test_p6_effect_length_refused : { Config.ref with effect := [40, 120] }.wf = false := by decide

theorem test_p8_maxDuty_zero_refused : { Config.ref with maxDuty := 0 }.wf = false := by decide

theorem test_p8_maxDuty_too_wide_refused :
    { Config.ref with maxDuty := 257 }.wf = false ∧ { Config.ref with maxDuty := 256 }.wf = true := by decide

theorem test_p9_dutyW_zero_refused :
    { Config.ref with dutyW := 0, maxDuty := 1 }.wf = false := by decide

theorem test_p11_statusDiv_zero_refused : { Config.ref with statusDiv := 0 }.wf = false := by decide

theorem test_p12_constants_too_wide_refused :
    { Config.ref with tickDiv := 65536 }.wf = false ∧ { Config.ref with pressTimeout := 65536 }.wf = false ∧
      { Config.ref with releaseTimeout := 65536 }.wf = false ∧
      { Config.ref with blinkDelay := 65536 }.wf = false ∧ { Config.ref with statusDiv := 65536 }.wf = false ∧
      { Config.ref with maxModeDuty := 65536 }.wf = false ∧
      { Config.ref with effect := [40, 65536, 0] }.wf = false ∧ { Config.ref with effectLen := 65536 }.wf = false ∧
      { Config.ref with tickDiv := 65535, pressTimeout := 0, effect := [65535, 0, 0] }.wf = true := by
  decide

theorem test_p12_effectLen_too_wide_refused :
    { Config.ref with cntW := 1, tickDiv := 1, pressTimeout := 1, releaseTimeout := 1, blinkDelay := 1
                      statusDiv := 1, maxModeDuty := 1, effectLen := 2, effect := [0, 1] }.wf = false ∧
      { Config.ref with cntW := 1, tickDiv := 1, pressTimeout := 1, releaseTimeout := 1, blinkDelay := 1
                        statusDiv := 1, maxModeDuty := 1, effectLen := 1, effect := [1] }.wf = true := by
  decide

/-! ### Decoding: words written out bit by bit, `SRC` `PH` `BS` `MD` (spec/30_encoding.md R87, R88) -/

theorem test_decode_tov : (decode 0b0110101110#10).toOption = some .tov := by decide

theorem test_decode_pci : (decode 0b1001110101#10).toOption = some .pci := by decide

theorem test_decode_start : (decode 0b0000000110#10).toOption = some .start := by decide

theorem test_decode_dbIdle : (decode 0b0000010010#10).toOption = some .dbIdle := by decide

theorem test_decode_dbArm : (decode 0b0000010101#10).toOption = some .dbArm := by decide

theorem test_decode_dbRun : (decode 0b0000011010#10).toOption = some .dbRun := by decide

theorem test_decode_dbCommit : (decode 0b0000011101#10).toOption = some .dbCommit := by decide

theorem test_decode_mOff : (decode 0b0000101000#10).toOption = some .mOff := by decide

theorem test_decode_mMax : (decode 0b0000101101#10).toOption = some .mMax := by decide

theorem test_decode_mBlink : (decode 0b0000100110#10).toOption = some .mBlink := by decide

theorem test_decode_pdClk : (decode 0b0000110100#10).toOption = some .pdClk := by decide

theorem test_decode_pdDrv : (decode 0b0001001000#10).toOption = some .pdDrv := by decide

theorem test_decode_pdLed : (decode 0b0001011100#10).toOption = some .pdLed := by decide

theorem test_decode_sleep : (decode 0b0001100100#10).toOption = some .sleep := by decide

theorem test_decode_poll : (decode 0b0010001000#10).toOption = some .poll := by decide

theorem test_decode_puDrv : (decode 0b0010010100#10).toOption = some .puDrv := by decide

theorem test_decode_puClk : (decode 0b0010101100#10).toOption = some .puClk := by decide

theorem test_decode_stat : (decode 0b0010111010#10).toOption = some .stat := by decide

theorem test_decode_clr : (decode 0b0011000101#10).toOption = some .clr := by decide

/-- spec/30_encoding.md R91: an event is selected whatever the other fields hold, reserved codes included. -/
theorem test_event_rows_examine_only_src :
    (decode 0b0111111111#10).toOption = some .tov ∧ (decode 0b1011111111#10).toOption = some .pci := by decide

theorem test_decodeTableWord :
    decodeTableWord 16 0x016A = some .tov ∧ decodeTableWord 16 0x0014 = some .dbArm ∧
      decodeTableWord 16 0x0022 = some .mBlink ∧ decodeTableWord 16 0x00C1 = some .clr ∧
      decodeTableWord 16 0x0300 = none ∧ decodeTableWord 16 0x0070 = none ∧
      decodeTableWord 16 0x0023 = none ∧ decodeTableWord 16 0x00D0 = none ∧
      decodeTableWord 16 0x0400 = none := by decide

/-- The row's match value is what the encoder writes (spec/opcode_table.json). -/
theorem test_encode_is_match_value :
    encode .dbArm = 0x014#10 ∧ encode .mBlink = 0x022#10 ∧ encode .puClk = 0x0A0#10 ∧
      encodeWith .tov 0x06A#10 = 0x16A#10 := by decide

/-! ### One operation each, with the expected values of spec/95_test_vectors.md -/

/-- Vector V5. -/
theorem test_tov_completes_tick_and_wakes :
    nextOf (exec .tov { ref with dphase := .asleep, subdiv := 3 }) =
      some { ref with dphase := .poll, tickflag := true, subdiv := 0 } := by decide

/-- Vector V7. -/
theorem test_tov_before_sleep_does_not_wake :
    nextOf (exec .tov { ref with dphase := .sleep, subdiv := 3 }) =
      some { ref with dphase := .sleep, tickflag := true, subdiv := 0 } := by decide

/-- Vector V15. -/
theorem test_pci_triggers_and_wakes :
    nextOf (exec .pci { ref with dphase := .asleep }) =
      some { ref with dphase := .poll, bstate := .triggered } := by decide

/-- Vector V13. -/
theorem test_pci_dropped_while_debouncing :
    nextOf (exec .pci { ref with bstate := .debouncing }) = some { ref with bstate := .debouncing } := by decide

/-- Vector V73. -/
theorem test_start_begins_pass :
    nextOf (exec .start (inPass .wait ref)) = some (inPass .debounce ref) := by decide

/-- Vector V72: the hold in `P_WAIT`. -/
theorem test_wait_without_tick_holds :
    nextOf (step (given .dispatcher .high ref)) = some ref := by decide

/-- Vector V66: the hold in `P_ASLEEP`. -/
theorem test_asleep_holds :
    nextOf (step (given .dispatcher .high (inPass .asleep ref))) = some (inPass .asleep ref) := by decide

/-- Vector V21. -/
theorem test_dbIdle :
    nextOf (exec .dbIdle (inPass .debounce { ref with mode := .blink })) =
      some (inPass .mode { ref with mode := .blink }) := by decide

/-- Vector V22. -/
theorem test_dbArm_press_window :
    nextOf (exec .dbArm (inPass .debounce { ref with bstate := .triggered, countdown := 9, good := 7 })) =
      some (inPass .mode { ref with bstate := .debouncing, countdown := 5, good := 2 }) := by decide

/-- Vector V23. -/
theorem test_dbArm_release_window :
    nextOf (exec .dbArm (inPass .debounce { ref with bstate := .triggered, bpos := .pressed, mode := .max })) =
      some (inPass .mode { ref with bstate := .debouncing, bpos := .pressed, mode := .max, countdown := 3
                                    good := 1 }) := by decide

/-- Vector V35: the last sample of a release window decides in the same operation. -/
theorem test_dbRun_accepts_release :
    nextOf (exec .dbRun (given .dispatcher .high (inPass .debounce
        { ref with bstate := .debouncing, bpos := .pressed, countdown := 1, good := 1 }))) =
      some (given .dispatcher .high (inPass .mode
        { ref with bstate := .debounced, bpos := .pressed, countdown := 0, good := 0 })) := by decide

/-- Vector V33: abort; `GOOD` keeps its value. -/
theorem test_dbRun_aborts_press :
    nextOf (exec .dbRun (given .dispatcher .high (inPass .debounce
        { ref with bstate := .debouncing, countdown := 1, good := 1 }))) =
      some (given .dispatcher .high (inPass .mode { ref with bstate := .unknown, countdown := 0, good := 1 })) := by
  decide

/-- Vector V41. -/
theorem test_dbCommit_press_wraps_mode :
    nextOf (exec .dbCommit (inPass .debounce { ref with bstate := .debounced, mode := .blink })) =
      some (inPass .mode { ref with bpos := .pressed, mode := .off }) := by decide

/-- Vector V44. -/
theorem test_dbCommit_release_keeps_mode :
    nextOf (exec .dbCommit (inPass .debounce
        { ref with bstate := .debounced, bpos := .pressed, mode := .blink })) =
      some (inPass .mode { ref with mode := .blink }) := by decide

/-- Vector V45. -/
theorem test_mOff_ignores_delay :
    nextOf (exec .mOff (inPass .mode { ref with mdelay := 2, eidx := 2, lastduty := 120, ocr := 120 })) =
      some (inPass .pdClk { ref with mdelay := 2, eidx := 2, lastduty := 120, ocr := 120 }) := by decide

/-- Vector V50: `OCR` is truncated to `DUTY_W` bits, `LASTDUTY` is not. -/
theorem test_mMax_truncates :
    nextOf (exec .mMax (inPass .mode { ref with cfg := { Config.ref with maxModeDuty := 300 }, mode := .max })) =
      some (inPass .status { ref with cfg := { Config.ref with maxModeDuty := 300 }, mode := .max
                                      lastduty := 300, ocr := 44 }) := by decide

/-- Vector V48: a held tick. -/
theorem test_mMax_held :
    nextOf (exec .mMax (inPass .mode
        { ref with mode := .max, mdelay := 2, eidx := 2, lastduty := 120, ocr := 120 })) =
      some (inPass .status { ref with mode := .max, mdelay := 1, eidx := 2, lastduty := 120, ocr := 120 }) := by
  decide

/-- Vector V53: the last entry wraps. -/
theorem test_mBlink_wraps :
    nextOf (exec .mBlink (inPass .mode { ref with mode := .blink, eidx := 2, lastduty := 7, ocr := 7 })) =
      some (inPass .status { ref with mode := .blink, mdelay := 2, eidx := 0, lastduty := 0, ocr := 0 }) := by
  decide

/-- Vector V54: a held tick. -/
theorem test_mBlink_held :
    nextOf (exec .mBlink (inPass .mode
        { ref with mode := .blink, mdelay := 2, eidx := 1, lastduty := 40, ocr := 40 })) =
      some (inPass .status { ref with mode := .blink, mdelay := 1, eidx := 1, lastduty := 40, ocr := 40 }) := by
  decide

/-- Vector V61. -/
theorem test_pdClk :
    nextOf (exec .pdClk (inPass .pdClk { ref with ocr := 120 })) =
      some (inPass .pdDrv { ref with ocr := 120, pwmclkEn := false }) := by decide

/-- Vector V62. -/
theorem test_pdDrv :
    nextOf (exec .pdDrv (inPass .pdDrv { ref with pwmclkEn := false })) =
      some (inPass .pdLed { ref with pwmclkEn := false, outEn := false }) := by decide

/-- Vector V63: `STATCNT` stays. -/
theorem test_pdLed :
    nextOf (exec .pdLed (inPass .pdLed { ref with status := true, statcnt := 2 })) =
      some (inPass .sleep { ref with status := false, statcnt := 2 }) := by decide

/-- Vector V65. -/
theorem test_sleep : nextOf (exec .sleep (inPass .sleep ref)) = some (inPass .asleep ref) := by decide

/-- Vector V67. -/
theorem test_poll_low_sleeps_again :
    nextOf (exec .poll (given .dispatcher .low (inPass .poll ref))) =
      some (given .dispatcher .low (inPass .sleep ref)) := by decide

/-- Vector V69: only the raw level counts. -/
theorem test_poll_high_powers_up :
    nextOf (exec .poll (given .dispatcher .high (inPass .poll { ref with bpos := .pressed }))) =
      some (given .dispatcher .high (inPass .puDrv { ref with bpos := .pressed })) := by decide

/-- Vector V70. -/
theorem test_puDrv :
    nextOf (exec .puDrv (inPass .puDrv { ref with pwmclkEn := false, outEn := false })) =
      some (inPass .puClk { ref with pwmclkEn := false, outEn := true }) := by decide

/-- Vector V71. -/
theorem test_puClk :
    nextOf (exec .puClk (inPass .puClk { ref with ocr := 120, pwmclkEn := false })) =
      some (inPass .status { ref with ocr := 120, pwmclkEn := true }) := by decide

/-- Vector V78. -/
theorem test_stat_toggles :
    nextOf (exec .stat (inPass .status { ref with mode := .max, status := true, statcnt := 2 })) =
      some (inPass .clear { ref with mode := .max, status := false, statcnt := 0 }) := by decide

/-- Vector V76. -/
theorem test_stat_counts :
    nextOf (exec .stat (inPass .status { ref with mode := .max, statcnt := 1 })) =
      some (inPass .clear { ref with mode := .max, statcnt := 2 }) := by decide

/-- Vector V80. -/
theorem test_clr :
    nextOf (exec .clr (inPass .clear { ref with mode := .max })) = some { ref with mode := .max } := by decide

/-! ### The word placed where the step takes its next operation -/

theorem test_withFetchWord_runs_first_operation :
    (nextOf (step (ref.withFetchWord 16 0x0100))).map State.subdiv = some 1 ∧
      (nextOf (step (ref.withFetchWord 16 0x0000))).map State.dphase = some .debounce ∧
      (nextOf (step (ref.withFetchWord 16 0x0014))).map State.countdown = some 5 ∧
      (nextOf (step (ref.withFetchWord 16 0x0022))).map State.ocr = some 40 ∧
      (nextOf (step (ref.withFetchWord 16 0x0080))).map State.dphase = some .puDrv := by decide

theorem test_withFetchWord_refusals :
    refusalOf (step (ref.withFetchWord 16 0x0300)) = some .reservedSource ∧
      refusalOf (step (ref.withFetchWord 16 0x0400)) = some .reservedSource ∧
      refusalOf (step (ref.withFetchWord 16 0x0023)) = some .reservedModeCode ∧
      refusalOf (step (ref.withFetchWord 16 0x00D0)) = some .reservedPhaseCode := by decide

/-! ### The stimulus language (spec/30_encoding.md R95 to R97) -/

/-- `tick; pass` in mode Max: four overflows, then the five operations of a pass (R96). -/
theorem test_tick_then_pass :
    (benchOf? (runScript [.tick, .pass] (benchOf { ref with mode := .max }))).map encodingOf =
      some [0x101, 0x101, 0x101, 0x101, 0x001, 0x011, 0x021, 0x0B1, 0x0C1] := by decide

/-- Row 1 of program PG1: one `TOV` from reset, all four columns (R97). -/
theorem test_trace_of_first_overflow :
    (benchOf? (runScript [.tov] (benchOf ref))).map traceLines =
      some ["1 TOV 0x100 DPHASE = P_WAIT, TICKFLAG = 0, SUBDIV = 1, BSTATE = Unknown, BPOS = Released, " ++
        "COUNTDOWN = 0, GOOD = 0, MODE = Off, MDELAY = 0, EIDX = 0, LASTDUTY = 0, OCR = 0, PWMCLK_EN = 1, " ++
        "OUT_EN = 1, STATUS = 0, STATCNT = 0"] := by decide +kernel

/-- Vectors V65 and V66: a `step` that enters the sleep, then one that holds. -/
theorem test_trace_of_hold :
    (benchOf? (runScript [.step, .step] (benchOf
        { inPass .sleep ref with pwmclkEn := false, outEn := false }))).map traceLines =
      some ["1 SLEEP 0x060 DPHASE = P_ASLEEP, TICKFLAG = 1, SUBDIV = 0, BSTATE = Unknown, BPOS = Released, " ++
        "COUNTDOWN = 0, GOOD = 0, MODE = Off, MDELAY = 0, EIDX = 0, LASTDUTY = 0, OCR = 0, PWMCLK_EN = 0, " ++
        "OUT_EN = 0, STATUS = 0, STATCNT = 0",
        "2 HOLD 0x070 DPHASE = P_ASLEEP, TICKFLAG = 1, SUBDIV = 0, BSTATE = Unknown, BPOS = Released, " ++
        "COUNTDOWN = 0, GOOD = 0, MODE = Off, MDELAY = 0, EIDX = 0, LASTDUTY = 0, OCR = 0, PWMCLK_EN = 0, " ++
        "OUT_EN = 0, STATUS = 0, STATCNT = 0"] := by decide +kernel

/-! ### Witnesses: states that meet the hypotheses of the statements, clause by clause -/

/-- A sleeping block with the outputs off, as the power sequence leaves it. -/
def sleeping : State := { inPass .asleep ref with pwmclkEn := false, outEn := false }

/-- A block in the middle of a press window, at the values `DB_ARM` loaded. -/
def windowOpen : State := inPass .debounce { ref with bstate := .debouncing, countdown := 5, good := 2 }

theorem witness_AfterResetOnlyEventsOperate :
    Config.ref.wf = true ∧ (⟨.dispatcher, .low⟩ : Input).src = .dispatcher ∧
      (⟨.tov, .high⟩ : Input).src = .tov ∧ (⟨.pc, .low⟩ : Input).src = .pc := by decide

theorem witness_FirstTickAfterResetEndsAsleep :
    Config.ref.wf = true ∧ 0 ≤ Config.ref.tickDiv ∧ 4 ≤ Config.ref.tickDiv ∧
      { Config.ref with tickDiv := 1 }.wf = true := by decide

theorem witness_DecodeEncodeAgree :
    Instr.wf .dbArm = true ∧ (decode 0b0000010111#10).toOption = some .dbArm := by decide

theorem witness_UnselectedValuesHoldOrRefuse_words :
    (0x300#10).extractLsb' 8 2 = 3#2 ∧ (0x3FF#10).extractLsb' 8 2 = 3#2 ∧
      (0x070#10).extractLsb' 8 2 = 0#2 ∧ (0x070#10).extractLsb' 4 4 = 7#4 ∧
      (0x02F#10).extractLsb' 8 2 = 0#2 ∧ (0x02F#10).extractLsb' 4 4 = 2#4 ∧ (0x02F#10).extractLsb' 0 2 = 3#2 ∧
      (0x0D0#10).extractLsb' 8 2 = 0#2 ∧ 13#4 ≤ (0x0D0#10).extractLsb' 4 4 ∧
      (0x0FF#10).extractLsb' 8 2 = 0#2 ∧ 13#4 ≤ (0x0FF#10).extractLsb' 4 4 := by decide

theorem witness_UnselectedValuesHoldOrRefuse_steps :
    (stateRefusal (given .dispatcher .low sleeping) = none ∧ sourceNow (given .dispatcher .low sleeping) = .dispatcher ∧
      (given .dispatcher .low sleeping).dphase = .asleep) ∧
    (stateRefusal (given .dispatcher .low ref) = none ∧ sourceNow (given .dispatcher .low ref) = .dispatcher ∧
      (given .dispatcher .low ref).dphase = .wait ∧ (given .dispatcher .low ref).tickflag = false) ∧
    (stateRefusal (given .reserved .low ref) = none ∧ sourceNow (given .reserved .low ref) = .reserved) := by decide

theorem witness_SelectedOperationIsEnabledOne :
    stateRefusal (given .tov .low ref) = none ∧ select (given .tov .low ref) = .operation .tov ∧
      enabled .tov (given .tov .low ref) = true := by decide

theorem witness_OneDispatcherOperationUnlessHolding :
    stateRefusal windowOpen = none ∧ Instr.agent .dbRun = .dispatcher ∧ enabled .dbRun windowOpen = true ∧
      stateRefusal sleeping = none ∧ sleeping.dphase = .asleep := by decide

theorem witness_StepRunsDecodedOperation :
    (stateRefusal (given .pc .low sleeping) = none ∧
      (decode (selNow (given .pc .low sleeping))).toOption = some .pci ∧
      nextOf (exec .pci (given .pc .low sleeping)) =
        some (given .pc .low { sleeping with dphase := .poll, bstate := .triggered })) ∧
    (stateRefusal (given .dispatcher .low (inPass .wait ref)) = none ∧
      (decode (selNow (given .dispatcher .low (inPass .wait ref)))).toOption = some .start ∧
      (given .dispatcher .low (inPass .wait ref)).tickflag = true) := by decide

theorem witness_DisabledOperationRefused : stateRefusal ref = none ∧ enabled .clr ref = false := by decide

theorem witness_MeaninglessStatesRefused_codes :
    { ref with cfg := { Config.ref with tickDiv := 0 } }.cfg.wf = false ∧
      (ref.cfg.wf = true ∧ (ref.setMode .reserved).mode = .reserved) ∧
      ((ref.setDphase .reserved13).mode ≠ .reserved ∧ (ref.setDphase .reserved13).dphase = .reserved13) ∧
      (ref.setDphase .reserved14).dphase = .reserved14 ∧ (ref.setDphase .reserved15).dphase = .reserved15 := by
  decide

/-- Each register at the first value outside its range; one below it the state is admitted. -/
theorem witness_MeaninglessStatesRefused_ranges :
    Config.ref.wf = true ∧ ref.mode ≠ .reserved ∧ phaseReserved ref.dphase = false ∧
      Config.ref.tickDiv ≤ (ref.setSubdiv 4).subdiv ∧ Config.ref.effectLen ≤ (ref.setEidx 3).eidx ∧
      Config.ref.statusDiv ≤ (ref.setStatcnt 3).statcnt ∧ Config.ref.blinkDelay < (ref.setMdelay 3).mdelay ∧
      stateRefusal ((((ref.setSubdiv 3).setEidx 2).setStatcnt 2).setMdelay 2) = none := by decide

/-- Each register at the first value outside its width; one below it the state is admitted. -/
theorem witness_MeaninglessStatesRefused_widths :
    2 ^ Config.ref.dutyW ≤ (ref.setOcr 256).ocr ∧ 2 ^ Config.ref.cntW ≤ (ref.setCountdown 65536).countdown ∧
      2 ^ Config.ref.cntW ≤ (ref.setGood 65536).good ∧ 2 ^ Config.ref.cntW ≤ (ref.setLastduty 65536).lastduty ∧
      stateRefusal ((((ref.setOcr 255).setCountdown 65535).setGood 65535).setLastduty 65535) = none := by decide

theorem witness_AdmittedStateAlwaysSteps :
    stateRefusal (given .tov .low sleeping) = none ∧ sourceNow (given .tov .low sleeping) ≠ .reserved := by decide

/-- Both sides of the comparison with `TICK_DIV`, asleep and awake. -/
theorem witness_TovCountsAndWakes :
    stateRefusal (sleeping.setSubdiv 3) = none ∧ (sleeping.setSubdiv 3).subdiv + 1 = Config.ref.tickDiv ∧
      stateRefusal (ref.setSubdiv 2) = none ∧ (ref.setSubdiv 2).subdiv + 1 ≠ Config.ref.tickDiv := by decide

theorem witness_PciTriggersAndWakes :
    stateRefusal sleeping = none ∧ sleeping.bstate = .unknown ∧ stateRefusal windowOpen = none ∧
      windowOpen.bstate = .debouncing := by decide

theorem witness_DbIdleOnlyMovesOn :
    stateRefusal (inPass .debounce ref) = none ∧ (inPass .debounce ref).dphase = .debounce ∧
      (inPass .debounce ref).bstate = .unknown := by decide

theorem witness_DbArmLoadsWindow :
    (stateRefusal (inPass .debounce { ref with bstate := .triggered }) = none ∧
      (inPass .debounce { ref with bstate := .triggered }).dphase = .debounce ∧
      (inPass .debounce { ref with bstate := .triggered }).bstate = .triggered ∧
      (inPass .debounce { ref with bstate := .triggered }).bpos = .released) ∧
    (stateRefusal (inPass .debounce { ref with bstate := .triggered, bpos := .pressed }) = none ∧
      (inPass .debounce { ref with bstate := .triggered, bpos := .pressed }).bpos = .pressed) := by decide

/-- A sample that counts, the last tick of a window, and a countdown that has already run out. -/
theorem witness_DbRunSamplesAndDecides :
    (stateRefusal (given .dispatcher .low windowOpen) = none ∧ windowOpen.dphase = .debounce ∧
      windowOpen.bstate = .debouncing ∧ 4 = (if 0 < windowOpen.countdown then windowOpen.countdown - 1 else 0) ∧
      1 = (if 0 < windowOpen.countdown ∧ 0 < windowOpen.good ∧
          ((pinRead (given .dispatcher .low windowOpen) = .low ∧ windowOpen.bpos = .released) ∨
            (pinRead (given .dispatcher .low windowOpen) = .high ∧ windowOpen.bpos = .pressed))
        then windowOpen.good - 1 else windowOpen.good)) ∧
    (stateRefusal { windowOpen with countdown := 1, good := 1 } = none ∧
      0 = (if 0 < 1 then 1 - 1 else 0)) ∧
    (stateRefusal { windowOpen with countdown := 0, good := 0 } = none ∧
      0 = (if 0 < 0 then 0 - 1 else 0)) := by decide

theorem witness_DbCommitCommitsAndAdvances :
    (stateRefusal (inPass .debounce { ref with bstate := .debounced, bpos := .pressed }) = none ∧
      (inPass .debounce { ref with bstate := .debounced, bpos := .pressed }).dphase = .debounce ∧
      (inPass .debounce { ref with bstate := .debounced, bpos := .pressed }).bstate = .debounced ∧
      (inPass .debounce { ref with bstate := .debounced, bpos := .pressed }).bpos = .pressed) ∧
    (stateRefusal (inPass .debounce { ref with bstate := .debounced }) = none ∧ ref.bpos = .released ∧
      ref.mode = .off) ∧
    stateRefusal (inPass .debounce { ref with bstate := .debounced, mode := .max }) = none ∧
    stateRefusal (inPass .debounce { ref with bstate := .debounced, mode := .blink }) = none := by decide

theorem witness_MOffEntersShutdown :
    stateRefusal (inPass .mode ref) = none ∧ (inPass .mode ref).dphase = .mode ∧ (inPass .mode ref).mode = .off := by
  decide

/-- The delay at 0 and at its largest value. -/
theorem witness_MMaxAppliesMaxDuty :
    (stateRefusal (inPass .mode (ref.setMode .max)) = none ∧ (inPass .mode (ref.setMode .max)).dphase = .mode ∧
      (inPass .mode (ref.setMode .max)).mode = .max ∧ (inPass .mode (ref.setMode .max)).mdelay = 0) ∧
    (stateRefusal (inPass .mode ((ref.setMode .max).setMdelay 2)) = none ∧
      (inPass .mode ((ref.setMode .max).setMdelay 2)).mdelay ≠ 0) := by decide

/-- The delay at 0 and at its largest value; the index at the last entry. -/
theorem witness_MBlinkStepsThroughTable :
    (stateRefusal (inPass .mode ((ref.setMode .blink).setEidx 2)) = none ∧
      (inPass .mode ((ref.setMode .blink).setEidx 2)).dphase = .mode ∧
      (inPass .mode ((ref.setMode .blink).setEidx 2)).mode = .blink ∧
      (inPass .mode ((ref.setMode .blink).setEidx 2)).mdelay = 0) ∧
    (stateRefusal (inPass .mode ((ref.setMode .blink).setMdelay 2)) = none ∧
      (inPass .mode ((ref.setMode .blink).setMdelay 2)).mdelay ≠ 0) := by decide

/-- The statements of the power operations and of `CLR` have one hypothesis beside `stateRefusal`: the phase. -/
theorem witness_power_operations_and_CLR :
    (stateRefusal (inPass .pdClk ref) = none ∧ (inPass .pdClk ref).dphase = .pdClk) ∧
    (stateRefusal (inPass .pdDrv ref) = none ∧ (inPass .pdDrv ref).dphase = .pdDrv) ∧
    (stateRefusal (inPass .pdLed ref) = none ∧ (inPass .pdLed ref).dphase = .pdLed) ∧
    (stateRefusal (inPass .sleep ref) = none ∧ (inPass .sleep ref).dphase = .sleep) ∧
    (stateRefusal (inPass .puDrv ref) = none ∧ (inPass .puDrv ref).dphase = .puDrv) ∧
    (stateRefusal (inPass .puClk ref) = none ∧ (inPass .puClk ref).dphase = .puClk) ∧
    (stateRefusal (inPass .clear ref) = none ∧ (inPass .clear ref).dphase = .clear) := by decide

theorem witness_PollBranchesOnRawLevel :
    (stateRefusal (given .dispatcher .high (inPass .poll ref)) = none ∧
      (given .dispatcher .high (inPass .poll ref)).dphase = .poll ∧
      pinRead (given .dispatcher .high (inPass .poll ref)) = .high) ∧
    (stateRefusal (given .dispatcher .low (inPass .poll ref)) = none ∧
      pinRead (given .dispatcher .low (inPass .poll ref)) = .low) := by decide

/-- The last pass before a toggle of the indicator, and one before it. -/
theorem witness_StatDividesAndToggles :
    (stateRefusal (inPass .status (ref.setStatcnt 2)) = none ∧ (inPass .status (ref.setStatcnt 2)).dphase = .status ∧
      (inPass .status (ref.setStatcnt 2)).statcnt + 1 = Config.ref.statusDiv) ∧
    (stateRefusal (inPass .status (ref.setStatcnt 1)) = none ∧
      (inPass .status (ref.setStatcnt 1)).statcnt + 1 ≠ Config.ref.statusDiv) := by decide

theorem witness_StartNeedsTickFlag :
    (stateRefusal (inPass .wait ref) = none ∧ (inPass .wait ref).dphase = .wait ∧ (inPass .wait ref).tickflag = true) ∧
    (stateRefusal (given .dispatcher .low ref) = none ∧ ref.dphase = .wait ∧ ref.tickflag = false ∧
      sourceNow (given .dispatcher .low ref) = .dispatcher) := by decide

/-- The last index and the first one past it; the largest value that is not truncated. -/
theorem witness_TableReadAndPulseOutputPrimitives :
    Config.ref.wf = true ∧ 2 < Config.ref.effectLen ∧ Config.ref.effectLen ≤ 3 ∧ 255 < 2 ^ ref.cfg.dutyW := by
  decide

/-- One run of each writer's kind: an event, a debounce operation, a mode operation, a power operation. -/
theorem witness_RegistersHaveNoOtherWriters :
    (∃ t, exec .tov sleeping = .next t ∧ t.subdiv ≠ sleeping.subdiv) ∧
      (∃ t, exec .dbRun (given .dispatcher .low windowOpen) = .next t ∧ t.good ≠ windowOpen.good) ∧
      (∃ t, exec .mBlink (inPass .mode (ref.setMode .blink)) = .next t ∧ t.ocr ≠ ref.ocr) ∧
      (∃ t, exec .pdClk (inPass .pdClk ref) = .next t ∧ t.pwmclkEn ≠ ref.pwmclkEn) :=
  ⟨⟨_, rfl, by decide⟩, ⟨_, rfl, by decide⟩, ⟨_, rfl, by decide⟩, ⟨_, rfl, by decide⟩⟩

theorem witness_InterruptContextWritesOnlyMailboxes :
    contextOf .pci = .interrupt ∧ contextOf .tov = .interrupt ∧
      ∃ t, exec .pci sleeping = .next t ∧ t.bstate = .triggered ∧ t.dphase = .poll :=
  ⟨by decide, by decide, _, rfl, by decide, by decide⟩

theorem witness_PhaseFollowsSuccessorTable :
    (∃ t, Instr.agent .clr = .dispatcher ∧ exec .clr (inPass .clear ref) = .next t) ∧
      (∃ t, Instr.agent .tov ≠ .dispatcher ∧ exec .tov windowOpen = .next t ∧ windowOpen.dphase ≠ .asleep) ∧
      ∃ t, Instr.agent .pci ≠ .dispatcher ∧ exec .pci sleeping = .next t ∧ sleeping.dphase = .asleep :=
  ⟨⟨_, by decide, rfl⟩, ⟨_, by decide, rfl, by decide⟩, ⟨_, by decide, rfl, by decide⟩⟩

theorem witness_ResetMeetsReachableInv : Config.ref.wf = true := by decide

/-- A state that meets the invariant of the reachable states inside a window, and steps. -/
theorem witness_StepKeepsReachableInv :
    ReachableInv (given .dispatcher .low windowOpen) ∧
      ∃ t, step (given .dispatcher .low windowOpen) = .next t :=
  ⟨⟨by decide, by decide, by decide, by decide, by decide, by decide, by decide⟩, _, rfl⟩

/-- The other end of the invariant: an armed window of timeout 0, and an accepted window. -/
theorem witness_StepKeepsReachableInv_boundaries :
    ReachableInv { windowOpen with cfg := { Config.ref with pressTimeout := 0 }, countdown := 0, good := 0 } ∧
      ReachableInv (inPass .debounce { ref with bstate := .debounced }) :=
  ⟨⟨by decide, by decide, by decide, by decide, by decide, by decide, by decide⟩,
    ⟨by decide, by decide, by decide, by decide, by decide, by decide, by decide⟩⟩

theorem witness_StepKeepsPowerInv :
    PowerInv (given .tov .low sleeping) ∧ ∃ t, step (given .tov .low sleeping) = .next t :=
  ⟨⟨by decide, by decide, by decide, by decide, by decide⟩, _, rfl⟩

/-- A sleeping block, woken by either event, with the script's inputs all from an agent. -/
theorem witness_InvariantStatesStepOn :
    ReachableInv (given .tov .low sleeping) ∧ PowerInv (given .tov .low sleeping) ∧
      sourceNow (given .tov .low sleeping) ≠ .reserved ∧
      ∀ x ∈ (given .tov .low sleeping).env.script, x.src ≠ .reserved :=
  ⟨⟨by decide, by decide, by decide, by decide, by decide, by decide, by decide⟩,
    ⟨by decide, by decide, by decide, by decide, by decide⟩, by decide, by decide⟩

/-- The same hypotheses at a state that holds, and at the reset state with its empty script. -/
theorem witness_RunsNeverStop :
    (ReachableInv (given .dispatcher .high sleeping) ∧ PowerInv (given .dispatcher .high sleeping) ∧
      ∀ x ∈ (given .dispatcher .high sleeping).env.script, x.src ≠ .reserved) ∧
    ReachableInv ref ∧ PowerInv ref ∧ ∀ x ∈ ref.env.script, x.src ≠ .reserved :=
  ⟨⟨⟨by decide, by decide, by decide, by decide, by decide, by decide, by decide⟩,
      ⟨by decide, by decide, by decide, by decide, by decide⟩, by decide⟩,
    ⟨by decide, by decide, by decide, by decide, by decide, by decide, by decide⟩,
    ⟨by decide, by decide, by decide, by decide, by decide⟩, by decide⟩

theorem witness_HandlersCommute : stateRefusal (sleeping.setSubdiv 3) = none := by decide

theorem witness_TovCommutesWithDispatcherOperations :
    Instr.agent .dbRun = .dispatcher ∧ Instr.dbRun ≠ .clr ∧ Instr.dbRun ≠ .sleep ∧
      ∃ t, exec .dbRun (given .dispatcher .low (windowOpen.setSubdiv 3)) = .next t :=
  ⟨by decide, by decide, by decide, _, rfl⟩

/-- One overflow completes the tick, or one is still missing. -/
theorem witness_TovDivisionLaw :
    stateRefusal (ref.setSubdiv 3) = none ∧ Config.ref.tickDiv ≤ (ref.setSubdiv 3).subdiv + 1 ∧
      stateRefusal (ref.setSubdiv 2) = none ∧ ¬Config.ref.tickDiv ≤ (ref.setSubdiv 2).subdiv + 1 := by decide

/-- A tick that starts inside the sub-divider's count: the first of the four operations sets the flag. -/
theorem witness_TickTokenSetsFlagOnce :
    stateRefusal (benchOf (ref.setSubdiv 3)).block = none ∧
      0 + 1 = Config.ref.tickDiv - (ref.setSubdiv 3).subdiv := by decide

/-- A press window of `REF`, a release window of `REF`, and a window of timeout 0, which lasts one tick. -/
theorem witness_DebounceCommitsIffHalfMatch :
    (stateRefusal (inPass .debounce { ref with bstate := .triggered }) = none ∧
      [Level.low, .high, .low, .high, .high].length =
        max (timeoutFor Config.ref (target { ref with bstate := .triggered })) 1) ∧
    (stateRefusal (inPass .debounce { ref with bstate := .triggered, bpos := .pressed }) = none ∧
      [Level.high, .low, .low].length = max (timeoutFor Config.ref (target { ref with bpos := .pressed })) 1) ∧
    (stateRefusal (inPass .debounce { ref with cfg := { Config.ref with pressTimeout := 0 }, bstate := .triggered }) =
        none ∧
      [Level.high].length =
        max (timeoutFor { Config.ref with pressTimeout := 0 } (target ref)) 1) := by decide

/-- The last tick of a leftover delay, and the first and the last tick of an entry. -/
theorem witness_BlinkReplaysTable :
    stateRefusal { ref with mode := .blink, eidx := 2, mdelay := 2 } = none ∧
      { ref with mode := .blink }.mode = .blink ∧ 2 ≤ { ref with mode := .blink, mdelay := 2 }.mdelay ∧
      0 ≤ ref.cfg.blinkDelay ∧ 2 ≤ ref.cfg.blinkDelay := by decide

/-- The last held tick, and the first tick that applies the duty. -/
theorem witness_MaxModeHoldsConfiguredDuty :
    stateRefusal { ref with mode := .max, mdelay := 2 } = none ∧ 2 ≤ { ref with mode := .max, mdelay := 2 }.mdelay ∧
      { ref with mode := .max, mdelay := 2 }.mdelay < 3 ∧ ref.cfg.maxModeDuty < 2 ^ ref.cfg.dutyW ∧
      Config.ref.wf = true := by decide

theorem witness_NoPinChangeNoModeChange :
    (ref.setEnv ⟨[⟨.tov, .low⟩, ⟨.dispatcher, .low⟩], 0⟩).bstate = .unknown ∧
      2 ≤ (ref.setEnv ⟨[⟨.tov, .low⟩, ⟨.dispatcher, .low⟩], 0⟩).env.script.length ∧
      (∀ x ∈ (ref.setEnv ⟨[⟨.tov, .low⟩, ⟨.dispatcher, .low⟩], 0⟩).env.script, x.src ≠ .pc) ∧
      ∃ t, Host.Core.run Sys2Proof.core 2 (ref.setEnv ⟨[⟨.tov, .low⟩, ⟨.dispatcher, .low⟩], 0⟩) = .next t :=
  ⟨by decide, by decide, by decide, _, rfl⟩

theorem witness_ModeAdvancesOnlyOnCommittedPress :
    ∃ t, step (given .dispatcher .low (inPass .debounce { ref with bstate := .debounced, mode := .blink })) =
        .next t ∧ t.mode ≠ .blink :=
  ⟨_, rfl, by decide⟩

/-- The loop is left, and it is kept. -/
theorem witness_SleepLoopLeftOnlyOnRelease :
    (∃ t, step (given .dispatcher .high (sleeping.setDphase .poll)) = .next t ∧
      sleepLoopPhase (sleeping.setDphase .poll).dphase = true ∧ sleepLoopPhase t.dphase = false) ∧
    ∃ t, step (given .dispatcher .low (sleeping.setDphase .poll)) = .next t ∧ sleepLoopPhase t.dphase = true :=
  ⟨⟨_, rfl, by decide, by decide⟩, ⟨_, rfl, by decide⟩⟩

/-- The state is entered, and it is left. -/
theorem witness_SleepEnteredAndLeftOnlySo :
    (∃ t, step (given .dispatcher .low (sleeping.setDphase .sleep)) = .next t ∧
      powerState (sleeping.setDphase .sleep) = .running ∧ powerState t = .asleep) ∧
    ∃ t, step (given .pc .low sleeping) = .next t ∧ powerState sleeping = .asleep ∧ powerState t = .running :=
  ⟨⟨_, rfl, by decide, by decide⟩, ⟨_, rfl, by decide, by decide⟩⟩

theorem witness_WithoutOverflowsOnlyPinWakes :
    PowerInv (given .pc .low sleeping) ∧ premiseE2NoTov (given .pc .low sleeping) ∧
      (given .pc .low sleeping).dphase = .asleep ∧
      ∃ t, step (given .pc .low sleeping) = .next t ∧ t.dphase ≠ .asleep :=
  ⟨⟨by decide, by decide, by decide, by decide, by decide⟩, by unfold premiseE2NoTov; decide, by decide, _,
    rfl, by decide⟩

/-- An operation that never reads the level, and a `DB_RUN` that needs no more samples. -/
theorem witness_LevelReadOnlyByPollAndSampling :
    (Instr.clr ≠ .poll ∧ ∃ t, exec .clr (inPass .clear ref) = .next t) ∧
      (Instr.dbRun ≠ .poll ∧ (windowOpen.setGood 0).good = 0 ∧
        ∃ t, exec .dbRun (given .dispatcher .low (windowOpen.setGood 0)) = .next t) :=
  ⟨⟨by decide, _, rfl⟩, ⟨by decide, by decide, _, rfl⟩⟩

/-- The start of a pass, with five dispatcher steps to come. -/
def passStart (s : State) : State := (inPass .wait s).setEnv ⟨List.replicate 5 ⟨.dispatcher, .high⟩, 0⟩

/-- A pass in mode Max, one in mode Blink, and one that commits a press in mode Off, which runs no `M_OFF`. -/
theorem witness_PassWithoutOffIsFiveOperations :
    (stateRefusal (passStart (ref.setMode .max)) = none ∧ (passStart (ref.setMode .max)).dphase = .wait ∧
      (passStart (ref.setMode .max)).tickflag = true ∧ passRunsOff (passStart (ref.setMode .max)) = false ∧
      (passStart (ref.setMode .max)).env.script =
        [⟨.dispatcher, .high⟩, ⟨.dispatcher, .high⟩, ⟨.dispatcher, .high⟩, ⟨.dispatcher, .high⟩,
          ⟨.dispatcher, .high⟩]) ∧
    passRunsOff (passStart (ref.setMode .blink)) = false ∧
    passRunsOff (passStart (ref.setBstate .debounced)) = false := by decide

theorem witness_TickBeforeClearIsLost :
    stateRefusal (inPass .clear (ref.setSubdiv 3)) = none ∧ (inPass .clear (ref.setSubdiv 3)).dphase = .clear ∧
      (inPass .clear (ref.setSubdiv 3)).subdiv + 1 = Config.ref.tickDiv := by decide

/-- With the event latched, with the event dropped, and with a tick completed. -/
theorem witness_EventBeforeSleepDoesNotWake :
    (stateRefusal (sleeping.setDphase .sleep) = none ∧ (sleeping.setDphase .sleep).dphase = .sleep ∧
      (sleeping.setDphase .sleep).bstate = .unknown) ∧
    (stateRefusal ((sleeping.setDphase .sleep).setBstate .triggered) = none ∧
      ((sleeping.setDphase .sleep).setBstate .triggered).bstate ≠ .unknown) ∧
    (stateRefusal ((sleeping.setDphase .sleep).setSubdiv 3) = none ∧
      ((sleeping.setDphase .sleep).setSubdiv 3).subdiv + 1 = Config.ref.tickDiv) := by decide

end Sys2Proof.Tests
end

section
/-!
PROOFS. The state after reset (spec/10_state.md R50): one reading rule per register, a row of the table each, and the
obligation assembled from them.
-/

namespace Sys2Proof.Machine

section
variable (c : Config)

@[simp] theorem State.resetWith_subdiv : (State.resetWith c).subdiv = 0 := rfl
@[simp] theorem State.resetWith_tickflag : (State.resetWith c).tickflag = false := rfl
@[simp] theorem State.resetWith_bstate : (State.resetWith c).bstate = .unknown := rfl
@[simp] theorem State.resetWith_bpos : (State.resetWith c).bpos = .released := rfl
@[simp] theorem State.resetWith_countdown : (State.resetWith c).countdown = 0 := rfl
@[simp] theorem State.resetWith_good : (State.resetWith c).good = 0 := rfl
@[simp] theorem State.resetWith_mode : (State.resetWith c).mode = .off := rfl
@[simp] theorem State.resetWith_mdelay : (State.resetWith c).mdelay = 0 := rfl
@[simp] theorem State.resetWith_eidx : (State.resetWith c).eidx = 0 := rfl
@[simp] theorem State.resetWith_ecount : (State.resetWith c).ecount = c.effectLen := rfl
@[simp] theorem State.resetWith_lastduty : (State.resetWith c).lastduty = 0 := rfl
@[simp] theorem State.resetWith_statcnt : (State.resetWith c).statcnt = 0 := rfl
@[simp] theorem State.resetWith_dphase : (State.resetWith c).dphase = .wait := rfl
@[simp] theorem State.resetWith_ocr : (State.resetWith c).ocr = 0 := rfl
@[simp] theorem State.resetWith_pwmclkEn : (State.resetWith c).pwmclkEn = true := rfl
@[simp] theorem State.resetWith_outEn : (State.resetWith c).outEn = true := rfl
@[simp] theorem State.resetWith_status : (State.resetWith c).status = false := rfl

end

open State in
/-- Settles O1, row by row of the reset table (spec/10_state.md R50, decision D8). -/
theorem resetRegisterValues : Obligations.ResetRegisterValues := fun c =>
  ⟨resetWith_subdiv c, resetWith_tickflag c, resetWith_bstate c, resetWith_bpos c,
    resetWith_countdown c, resetWith_good c, resetWith_mode c, resetWith_mdelay c, resetWith_eidx c,
    resetWith_ecount c, resetWith_lastduty c, resetWith_statcnt c, resetWith_dphase c, resetWith_ocr c,
    resetWith_pwmclkEn c, resetWith_outEn c, resetWith_status c⟩

end Sys2Proof.Machine
end

section
/-!
PROOFS. The tick source (spec/40_tick_source.md R100): which selector words select an event's operation
(spec/30_encoding.md R88), what the overflow handler writes, and the obligation assembled from the two.
-/

namespace Sys2Proof

/-! ### The field `SRC` of a selector word -/

/-- The mask `0x300` of the two event rows keeps the field `SRC` and nothing else. -/
theorem Sel.and_srcMask (w : Sel) : w &&& 0x300#10 = w.extractLsb' 8 2 ++ 0#8 :=
  calc w &&& 0x300#10
      = (w.extractLsb' 8 2 ++ w.extractLsb' 0 8) &&& (BitVec.allOnes 2 ++ 0#8) := by
        rw [BitVec.extractLsb'_append_extractLsb' (w := 2) (len := 8)]; rfl
    _ = w.extractLsb' 8 2 ++ 0#8 := by rw [BitVec.and_append, BitVec.and_allOnes, BitVec.and_zero]

theorem Source.ofCode_eq_iff (c : BitVec 2) (src : Source) : Source.ofCode c = src ↔ c = src.code := by
  constructor
  · rintro rfl
    exact (Source.code_ofCode c).symm
  · rintro rfl
    exact Source.ofCode_code src

/-- Who acts, read off the word by mask and match value. -/
theorem Sel.src_eq_iff (w : Sel) (src : Source) : w.src = src ↔ w &&& 0x300#10 = src.code ++ 0#8 := by
  rw [Sel.src, Source.ofCode_eq_iff, Sel.and_srcMask]
  exact (BitVec.append_left_inj 0#8).symm

/-! ### The agent of a decoded operation -/

theorem decodeDispatcher_agent {ph : Phase} {bs : BState} {md : Mode} {i : Instr}
    (h : decodeDispatcher ph bs md = .ok i) : i.agent = .dispatcher := by
  cases ph with
  | debounce => cases h; cases bs <;> rfl
  | mode => cases md <;> cases h <;> rfl
  | _ => cases h <;> rfl

/-- A decoded operation belongs to the agent that the field `SRC` names (spec/30_encoding.md R87, R89). -/
theorem decode_src {w : Sel} {i : Instr} (h : decode w = .ok i) : w.src = i.agent.source := by
  unfold decode at h
  cases hsrc : w.src with
  | dispatcher => rw [hsrc] at h; rw [decodeDispatcher_agent h]; rfl
  | tov => rw [hsrc] at h; cases h; rfl
  | pc => rw [hsrc] at h; cases h; rfl
  | reserved => rw [hsrc] at h; cases h

/-- `TOV` is decoded exactly from the words of the timer-overflow source: its row examines no other field. -/
theorem decode_eq_tov_iff (w : Sel) : decode w = .ok .tov ↔ w.src = .tov :=
  ⟨decode_src, fun h => by rw [decode, h]; rfl⟩

end Sys2Proof

namespace Sys2Proof.Machine

theorem selectedBy_tov : selectedBy .tov 0x100 0x300 := fun w =>
  (decode_eq_tov_iff w).trans (w.src_eq_iff .tov)

/-! ### The overflow handler -/

/-- All that the handler's own effect writes: `SUBDIV`, and `TICKFLAG` when the count wraps. -/
theorem countOverflow_eq (s : State) :
    countOverflow s = { s with
      subdiv := if s.subdiv + 1 = s.cfg.tickDiv then 0 else s.subdiv + 1
      tickflag := if s.subdiv + 1 = s.cfg.tickDiv then true else s.tickflag } := by
  by_cases hwrap : s.subdiv + 1 = s.cfg.tickDiv
  · simp [countOverflow, upCount, upWraps, hwrap, raiseTick, State.setSubdiv, State.setTickflag]
  · simp [countOverflow, upCount, upWraps, hwrap, State.setSubdiv]

theorem exec_tov (s : State) : exec .tov s = execTov s := rfl

/-- `TOV` is enabled in every state (spec/30_encoding.md R89), so an admitted state takes the interrupt. -/
theorem exec_tov_of_admitted {s : State} (ha : stateRefusal s = none) :
    exec .tov s = .next (takeInterrupt countOverflow s) :=
  (exec_tov s).trans (perform_of_enabled (i := .tov) ha rfl _)

/-- Settles O15: the row of `TOV` examines `SRC` alone, and the handler's count and the wake write different
registers (spec/40_tick_source.md R100, spec/60_exceptions.md R190). -/
theorem tovCountsAndWakes : Obligations.TovCountsAndWakes := by
  refine ⟨selectedBy_tov, fun s ha => ?_⟩
  rw [exec_tov_of_admitted ha, takeInterrupt_eq, countOverflow_eq]

end Sys2Proof.Machine
end

section
/-!
PROOFS. The button debouncer (spec/41_button_debouncer.md R113 to R118): which selector words select `PCI` and the
four operations of phase `P_DEBOUNCE` (spec/30_encoding.md R88), what each of them writes, and the obligations
assembled from the two.
-/

namespace Sys2Proof

/-! ### A selector word and its fields -/

/-- A selector word is nothing but its four fields. -/
theorem Sel.make_fields (w : Sel) : Sel.make w.src w.ph w.bs w.md = w :=
  calc Sel.make w.src w.ph w.bs w.md
      = w.extractLsb' 8 2 ++ w.extractLsb' 4 4 ++ w.extractLsb' 2 2 ++ w.extractLsb' 0 2 := by
        simp only [Sel.make, Sel.src, Sel.ph, Sel.bs, Sel.md, Source.code_ofCode, Phase.code_ofCode,
          BState.code_ofCode, Mode.code_ofCode]
    _ = w := by
        rw [BitVec.extractLsb'_append_extractLsb'_eq_extractLsb' (rfl : 8 = 4 + 4),
          BitVec.extractLsb'_append_extractLsb'_eq_extractLsb' (rfl : 4 = 2 + 2),
          BitVec.extractLsb'_append_extractLsb'_eq_extractLsb' (rfl : 2 = 0 + 2)]
        exact BitVec.extractLsb'_eq_self

theorem Sel.make_inj {src src' : Source} {ph ph' : Phase} {bs bs' : BState} {md md' : Mode} :
    Sel.make src ph bs md = Sel.make src' ph' bs' md' ↔ src = src' ∧ ph = ph' ∧ bs = bs' ∧ md = md' := by
  constructor
  · intro h
    exact ⟨by simpa using congrArg Sel.src h, by simpa using congrArg Sel.ph h,
      by simpa using congrArg Sel.bs h, by simpa using congrArg Sel.md h⟩
  · rintro ⟨rfl, rfl, rfl, rfl⟩
    rfl

/-- The mask `0x3FC` of the debounce rows clears the field `MD`, whose code 0 is mode Off, and keeps the rest. -/
theorem Sel.and_debounceMask (w : Sel) : w &&& 0x3FC#10 = Sel.make w.src w.ph w.bs .off :=
  calc w &&& 0x3FC#10
      = Sel.make w.src w.ph w.bs w.md &&& (BitVec.allOnes 8 ++ 0#2) := by rw [Sel.make_fields]; rfl
    _ = Sel.make w.src w.ph w.bs .off := by
        rw [Sel.make, BitVec.and_append, BitVec.and_allOnes, BitVec.and_zero]; rfl

/-! ### Decoding `PCI` and the debounce operations -/

/-- `PCI` is decoded exactly from the words of the pin-change source: its row examines no other field. -/
theorem decode_eq_pci_iff (w : Sel) : decode w = .ok .pci ↔ w.src = .pc :=
  ⟨decode_src, fun h => by rw [decode, h]; rfl⟩

theorem decodeDebounce_agent (bs : BState) : (decodeDebounce bs).agent = .dispatcher := by cases bs <;> rfl

theorem decodeDebounce_injective : Function.Injective decodeDebounce := by
  intro bs bs' h
  cases bs <;> cases bs' <;> cases h <;> rfl

/-- Only phase `P_DEBOUNCE` selects a debounce operation, and there `BSTATE` says which. -/
theorem decodeDispatcher_eq_debounce_iff {ph : Phase} {bs bs' : BState} {md : Mode} :
    decodeDispatcher ph bs md = .ok (decodeDebounce bs') ↔ ph = .debounce ∧ bs = bs' := by
  constructor
  · intro h
    cases ph with
    | debounce => exact ⟨rfl, decodeDebounce_injective (Except.ok.inj h)⟩
    | mode => cases md <;> cases bs' <;> cases h
    | _ => cases bs' <;> cases h
  · rintro ⟨rfl, rfl⟩
    rfl

/-- A debounce operation is decoded exactly from the dispatcher's words of phase `P_DEBOUNCE` with its `BSTATE`;
the field `MD` is not examined. -/
theorem decode_eq_debounce_iff (w : Sel) (bs : BState) :
    decode w = .ok (decodeDebounce bs) ↔ w.src = .dispatcher ∧ w.ph = .debounce ∧ w.bs = bs := by
  constructor
  · intro h
    have hsrc : w.src = .dispatcher := by rw [decode_src h, decodeDebounce_agent]; rfl
    rw [decode, hsrc] at h
    exact ⟨hsrc, decodeDispatcher_eq_debounce_iff.mp h⟩
  · rintro ⟨hsrc, hph, hbs⟩
    rw [decode, hsrc]
    exact decodeDispatcher_eq_debounce_iff.mpr ⟨hph, hbs⟩

end Sys2Proof

namespace Sys2Proof.Machine

theorem selectedBy_pci : selectedBy .pci 0x200 0x300 := fun w =>
  (decode_eq_pci_iff w).trans (w.src_eq_iff .pc)

/-- The row of a debounce operation, for the four values of `BSTATE` at once. -/
theorem selectedBy_debounce (bs : BState) :
    selectedBy (decodeDebounce bs) (Sel.make .dispatcher .debounce bs .off) 0x3FC#10 := fun w => by
  rw [decode_eq_debounce_iff, Sel.and_debounceMask, Sel.make_inj, and_iff_left (rfl : Mode.off = .off)]

theorem enabled_debounce {s : State} (hph : s.dphase = .debounce) {bs : BState} (hbs : s.bstate = bs) :
    enabled (decodeDebounce bs) s = true := by
  cases bs <;> simp [decodeDebounce, enabled, hph, hbs]

/-! ### The pin-change handler -/

/-- All that the handler's own effect writes: `BSTATE`, and only from `Unknown`. -/
theorem latchTrigger_eq (s : State) :
    latchTrigger s = { s with bstate := if s.bstate = .unknown then .triggered else s.bstate } := by
  by_cases hbs : s.bstate = .unknown
  · simp [latchTrigger, hbs, State.setBstate]
  · simp [latchTrigger, hbs]

theorem exec_pci (s : State) : exec .pci s = execPci s := rfl

/-- `PCI` is enabled in every state (spec/30_encoding.md R89), so an admitted state takes the interrupt. -/
theorem exec_pci_of_admitted {s : State} (ha : stateRefusal s = none) :
    exec .pci s = .next (takeInterrupt latchTrigger s) :=
  (exec_pci s).trans (perform_of_enabled (i := .pci) ha rfl _)

/-- Settles O16: the row of `PCI` examines `SRC` alone, and the latch and the wake write different registers, so
a dropped event wakes too (spec/41_button_debouncer.md R113 corner c). -/
theorem pciTriggersAndWakes : Obligations.PciTriggersAndWakes := by
  refine ⟨selectedBy_pci, fun s ha => ?_⟩
  rw [exec_pci_of_admitted ha, takeInterrupt_eq, latchTrigger_eq]

/-! ### The operations of phase `P_DEBOUNCE` -/

theorem exec_dbIdle (s : State) : exec .dbIdle s = execDbIdle s := rfl

theorem exec_dbArm (s : State) : exec .dbArm s = execDbArm s := rfl

theorem exec_dbCommit (s : State) : exec .dbCommit s = execDbCommit s := rfl

section
variable {s : State} (ha : stateRefusal s = none) (hph : s.dphase = .debounce)
include ha hph

theorem exec_dbIdle_of_unknown (hbs : s.bstate = .unknown) : exec .dbIdle s = .next (s.setDphase .mode) :=
  (exec_dbIdle s).trans (perform_of_enabled (i := .dbIdle) ha (enabled_debounce hph hbs) _)

theorem exec_dbArm_of_triggered (hbs : s.bstate = .triggered) :
    exec .dbArm s = .next (((loadWindow s).setBstate .debouncing).setDphase .mode) :=
  (exec_dbArm s).trans (perform_of_enabled (i := .dbArm) ha (enabled_debounce hph hbs) _)

theorem exec_dbCommit_of_debounced (hbs : s.bstate = .debounced) :
    exec .dbCommit s = .next (((commitTarget s).setBstate .unknown).setDphase .mode) :=
  (exec_dbCommit s).trans (perform_of_enabled (i := .dbCommit) ha (enabled_debounce hph hbs) _)

end

/-- All that loading the window writes: the timeout of the target and its floor half. -/
theorem loadWindow_eq (s : State) :
    loadWindow s = { s with
      countdown := timeoutFor s.cfg (target s)
      good := timeoutFor s.cfg (target s) / 2 } := rfl

theorem target_of_released {s : State} (hpos : s.bpos = .released) : target s = .pressed :=
  (target_eq_pressed_iff s).mpr hpos

theorem target_of_pressed {s : State} (hpos : s.bpos = .pressed) : target s = .released := by
  rw [target, hpos]; rfl

/-- Committing a release leaves `MODE`. -/
theorem commitTarget_of_pressed {s : State} (hpos : s.bpos = .pressed) :
    commitTarget s = { s with bpos := .released } := by
  simp [commitTarget, target_of_pressed hpos, State.setBpos]

/-- Committing a press advances `MODE`. -/
theorem commitTarget_of_released {s : State} (hpos : s.bpos = .released) :
    commitTarget s = { s with bpos := .pressed, mode := modeAdvance s.mode } := by
  simp [commitTarget, target_of_released hpos, State.setBpos, State.setMode]

/-- Settles O17: the operation's one write is `DPHASE` (spec/41_button_debouncer.md R114). -/
theorem dbIdleOnlyMovesOn : Obligations.DbIdleOnlyMovesOn :=
  ⟨selectedBy_debounce .unknown, fun _ ha hph hbs => exec_dbIdle_of_unknown ha hph hbs⟩

/-- Settles O18: the committed position names the target, and the target the timeout
(spec/41_button_debouncer.md R111, R115). -/
theorem dbArmLoadsWindow : Obligations.DbArmLoadsWindow := by
  refine ⟨selectedBy_debounce .triggered, fun s ha hph hbs => ?_⟩
  rw [exec_dbArm_of_triggered ha hph hbs, loadWindow_eq]
  constructor
  · intro hpos
    rw [target_of_released hpos]; rfl
  · intro hpos
    rw [target_of_pressed hpos]; rfl

/-- Settles O20: a release leaves `MODE`, and a press moves it one place on in its cycle of three
(spec/41_button_debouncer.md R118). -/
theorem dbCommitCommitsAndAdvances : Obligations.DbCommitCommitsAndAdvances := by
  refine ⟨selectedBy_debounce .debounced, fun s ha hph hbs => ?_⟩
  rw [exec_dbCommit_of_debounced ha hph hbs]
  refine ⟨fun hpos => ?_, fun hpos hmode => ?_, fun hpos hmode => ?_, fun hpos hmode => ?_⟩
  · rw [commitTarget_of_pressed hpos]; rfl
  · rw [commitTarget_of_released hpos, hmode, modeAdvance_off]; rfl
  · rw [commitTarget_of_released hpos, hmode, modeAdvance_max]; rfl
  · rw [commitTarget_of_released hpos, hmode, modeAdvance_blink]; rfl

end Sys2Proof.Machine
end

section
/-!
PROOFS. The mode scheduler (spec/42_mode_scheduler.md R131): which selector words select an operation of phase
`P_MODE` (spec/30_encoding.md R88), when that operation is enabled, and the obligation assembled from the two.
-/

namespace Sys2Proof

/-- The mask `0x3F3` of the mode rows clears the field `BS`, whose code 0 is `Unknown`, and keeps the rest. -/
theorem Sel.and_modeMask (w : Sel) : w &&& 0x3F3#10 = Sel.make w.src w.ph .unknown w.md :=
  calc w &&& 0x3F3#10
      = Sel.make w.src w.ph w.bs w.md &&& (BitVec.allOnes 6 ++ 0#2 ++ BitVec.allOnes 2) := by
        rw [Sel.make_fields]; rfl
    _ = Sel.make w.src w.ph .unknown w.md := by
        rw [Sel.make, BitVec.and_append, BitVec.and_append, BitVec.and_allOnes, BitVec.and_zero,
          BitVec.and_allOnes]; rfl

/-! ### Decoding the mode operations -/

/-- Different values of `MODE` select different operations. -/
theorem decodeMode_inj {md md' : Mode} {i : Instr} (h : decodeMode md = .ok i) (h' : decodeMode md' = .ok i) :
    md = md' := by
  cases md <;> cases h <;> cases md' <;> cases h' <;> rfl

/-- Only phase `P_MODE` selects a mode operation, and there `MODE` says which. -/
theorem decodeDispatcher_eq_mode_iff {ph : Phase} {bs : BState} {md md' : Mode} {i : Instr}
    (hi : decodeMode md' = .ok i) : decodeDispatcher ph bs md = .ok i ↔ ph = .mode ∧ md = md' := by
  constructor
  · intro h
    cases ph with
    | mode => exact ⟨rfl, decodeMode_inj h hi⟩
    | debounce => cases md' <;> cases hi <;> cases bs <;> cases h
    | _ => cases md' <;> cases hi <;> cases h
  · rintro ⟨rfl, rfl⟩
    exact hi

/-- A mode operation is decoded exactly from the dispatcher's words of phase `P_MODE` with its `MODE`; the field
`BS` is not examined. -/
theorem decode_eq_mode_iff (w : Sel) {md : Mode} {i : Instr} (hi : decodeMode md = .ok i) :
    decode w = .ok i ↔ w.src = .dispatcher ∧ w.ph = .mode ∧ w.md = md := by
  constructor
  · intro h
    have hagent : i.agent = .dispatcher := decodeDispatcher_agent (ph := .mode) (bs := .unknown) hi
    have hsrc : w.src = .dispatcher := by rw [decode_src h, hagent]; rfl
    rw [decode, hsrc] at h
    exact ⟨hsrc, (decodeDispatcher_eq_mode_iff hi).mp h⟩
  · rintro ⟨hsrc, hph, hmd⟩
    rw [decode, hsrc]
    exact (decodeDispatcher_eq_mode_iff hi).mpr ⟨hph, hmd⟩

end Sys2Proof

namespace Sys2Proof.Machine

/-- The row of a mode operation, for the three modes that have one at once. -/
theorem selectedBy_mode {md : Mode} {i : Instr} (hi : decodeMode md = .ok i) :
    selectedBy i (Sel.make .dispatcher .mode .unknown md) 0x3F3#10 := fun w => by
  rw [decode_eq_mode_iff w hi, Sel.and_modeMask, Sel.make_inj, eq_self, true_and]

theorem enabled_mode {s : State} (hph : s.dphase = .mode) {md : Mode} (hmd : s.mode = md) {i : Instr}
    (hi : decodeMode md = .ok i) : enabled i s = true := by
  cases md <;> cases hi <;> simp [enabled, hph, hmd]

theorem exec_mOff (s : State) : exec .mOff s = execMOff s := rfl

/-- `M_OFF` has no delay gate: its one write is `DPHASE`, for any `MDELAY`. -/
theorem exec_mOff_of_off {s : State} (ha : stateRefusal s = none) (hph : s.dphase = .mode)
    (hmode : s.mode = .off) : exec .mOff s = .next (s.setDphase .pdClk) :=
  (exec_mOff s).trans (perform_of_enabled (i := .mOff) ha (enabled_mode hph hmode rfl) _)

/-- Settles O21: the row of `M_OFF` examines all fields but `BS`, and the operation enters the shutdown sequence
at once (spec/42_mode_scheduler.md R131). -/
theorem mOffEntersShutdown : Obligations.MOffEntersShutdown :=
  ⟨selectedBy_mode (md := .off) rfl, fun _ ha hph hmode => exec_mOff_of_off ha hph hmode⟩

end Sys2Proof.Machine
end

section
/-!
PROOFS. The power controller (spec/43_power_controller.md R151 to R159): which selector words select an operation
that its phase alone chooses (spec/30_encoding.md R88), when a dispatcher operation is enabled (R89), and the
obligations of shutdown, sleep loop and restore assembled from the two.
-/

namespace Sys2Proof

/-- The mask `0x3F0` of the rows that examine no field but `SRC` and `PH` clears `BS` and `MD`, whose codes 0 are
`Unknown` and mode Off. -/
theorem Sel.and_phaseMask (w : Sel) : w &&& 0x3F0#10 = Sel.make w.src w.ph .unknown .off :=
  calc w &&& 0x3F0#10
      = Sel.make w.src w.ph w.bs w.md &&& (BitVec.allOnes 6 ++ 0#2 ++ 0#2) := by rw [Sel.make_fields]; rfl
    _ = Sel.make w.src w.ph .unknown .off := by
        rw [Sel.make, BitVec.and_append, BitVec.and_append, BitVec.and_allOnes, BitVec.and_zero,
          BitVec.and_zero]; rfl

/-! ### Decoding the operations that a phase alone selects -/

/-- The row of a dispatcher operation names the phase in which it is decoded. -/
theorem decodeDispatcher_phase {ph : Phase} {bs : BState} {md : Mode} {i : Instr}
    (h : decodeDispatcher ph bs md = .ok i) : i.row.bits.ph = ph := by
  cases ph with
  | debounce => cases h; cases bs <;> rfl
  | mode => cases md <;> cases h <;> rfl
  | _ => cases h <;> rfl

/-- Where a phase selects its operation whatever `BSTATE` and `MODE` hold, the operation is decoded exactly from
the dispatcher's words of that phase. -/
theorem decode_eq_iff_of_phase {ph : Phase} {i : Instr} (hi : ∀ bs md, decodeDispatcher ph bs md = .ok i)
    (w : Sel) : decode w = .ok i ↔ w.src = .dispatcher ∧ w.ph = ph := by
  constructor
  · intro h
    have hsrc : w.src = .dispatcher := by rw [decode_src h, decodeDispatcher_agent (hi w.bs w.md)]; rfl
    rw [decode, hsrc] at h
    exact ⟨hsrc, (decodeDispatcher_phase h).symm.trans (decodeDispatcher_phase (hi w.bs w.md))⟩
  · rintro ⟨hsrc, hph⟩
    rw [decode, hsrc, hph]
    exact hi w.bs w.md

end Sys2Proof

namespace Sys2Proof.Machine

/-- The dispatcher operation that the registers select is enabled, `START` with its flag (spec/30_encoding.md
R89). -/
theorem enabled_of_decodeDispatcher {s : State} {i : Instr}
    (h : decodeDispatcher s.dphase s.bstate s.mode = .ok i) (hflag : i = .start → tickPending s = true) :
    enabled i s = true := by
  cases hph : s.dphase with
  | wait =>
    rw [hph] at h; cases h
    simp [enabled, hph, hflag]
  | debounce =>
    rw [hph] at h; cases h
    exact enabled_debounce hph rfl
  | mode =>
    rw [hph] at h
    exact enabled_mode hph rfl h
  | _ =>
    rw [hph] at h; cases h <;> simp [enabled, hph]

section
variable {ph : Phase} {i : Instr} (hi : ∀ bs md, decodeDispatcher ph bs md = .ok i)
include hi

/-- The row of an operation that its phase alone selects. -/
theorem selectedBy_phase : selectedBy i (Sel.make .dispatcher ph .unknown .off) 0x3F0#10 := fun w => by
  rw [decode_eq_iff_of_phase hi, Sel.and_phaseMask, Sel.make_inj, and_iff_left (⟨rfl, rfl⟩ : _ ∧ _)]

/-- In its phase, such an operation other than `START` is performed by every admitted state. -/
theorem perform_of_phase (hns : i ≠ .start) {s : State} (ha : stateRefusal s = none) (hph : s.dphase = ph)
    (body : State → Result) : perform i s body = body s :=
  perform_of_enabled ha (enabled_of_decodeDispatcher (hph ▸ hi _ _) fun h => absurd h hns) body

end

/-! ### Shutdown -/

theorem exec_pdClk (s : State) : exec .pdClk s = execPdClk s := rfl

theorem exec_pdDrv (s : State) : exec .pdDrv s = execPdDrv s := rfl

theorem exec_pdLed (s : State) : exec .pdLed s = execPdLed s := rfl

theorem exec_sleep (s : State) : exec .sleep s = execSleep s := rfl

/-- Settles O24: the row examines `SRC` and `PH` alone, and the operation writes `PWMCLK_EN` and `DPHASE`
(spec/43_power_controller.md R151). -/
theorem pdClkStopsPwmClock : Obligations.PdClkStopsPwmClock := by
  refine ⟨selectedBy_phase (ph := .pdClk) fun _ _ => rfl, fun s ha hph => ?_⟩
  rw [exec_pdClk, execPdClk, perform_of_phase (fun _ _ => rfl) (by decide) ha hph]
  rfl

/-- Settles O25: the operation writes the driver's enable, by `OutDisable`, and `DPHASE`
(spec/43_power_controller.md R152). -/
theorem pdDrvDisablesPinDriver : Obligations.PdDrvDisablesPinDriver := by
  refine ⟨selectedBy_phase (ph := .pdDrv) fun _ _ => rfl, fun s ha hph => ?_⟩
  rw [exec_pdDrv, execPdDrv, perform_of_phase (fun _ _ => rfl) (by decide) ha hph, outDisable_eq]
  rfl

/-- Settles O26: the operation writes `STATUS` and `DPHASE`, and not the divider's count
(spec/43_power_controller.md R153). -/
theorem pdLedTurnsIndicatorOff : Obligations.PdLedTurnsIndicatorOff := by
  refine ⟨selectedBy_phase (ph := .pdLed) fun _ _ => rfl, fun s ha hph => ?_⟩
  rw [exec_pdLed, execPdLed, perform_of_phase (fun _ _ => rfl) (by decide) ha hph]
  rfl

/-- Settles O27: the operation's one write is `DPHASE`, and it takes no sample (spec/43_power_controller.md
R154). -/
theorem sleepEntersAsleep : Obligations.SleepEntersAsleep := by
  refine ⟨selectedBy_phase (ph := .sleep) fun _ _ => rfl, fun s ha hph => ?_⟩
  rw [exec_sleep, execSleep, perform_of_phase (fun _ _ => rfl) (by decide) ha hph]
  rfl

/-! ### The sleep loop and the restore -/

theorem exec_poll (s : State) : exec .poll s = execPoll s := rfl

theorem exec_puDrv (s : State) : exec .puDrv s = execPuDrv s := rfl

theorem exec_puClk (s : State) : exec .puClk s = execPuClk s := rfl

/-- `POLL` writes `DPHASE` alone, and the sample alone decides the value. -/
theorem exec_poll_of_phase {s : State} (ha : stateRefusal s = none) (hph : s.dphase = .poll) :
    exec .poll s = .next (s.setDphase (if pinRead s = .high then .puDrv else .sleep)) :=
  (exec_poll s).trans (perform_of_phase (ph := .poll) (fun _ _ => rfl) (by decide) ha hph _)

/-- Settles O28: one case for each level of the sample (spec/43_power_controller.md R157). -/
theorem pollBranchesOnRawLevel : Obligations.PollBranchesOnRawLevel := by
  refine ⟨selectedBy_phase (ph := .poll) fun _ _ => rfl, fun s ha hph => ?_⟩
  rw [exec_poll_of_phase ha hph]
  constructor
  · intro hhigh
    rw [hhigh]; rfl
  · intro hlow
    rw [hlow]; rfl

/-- Settles O29: the operation writes the driver's enable, by `OutEnable`, and `DPHASE`
(spec/43_power_controller.md R158). -/
theorem puDrvEnablesPinDriver : Obligations.PuDrvEnablesPinDriver := by
  refine ⟨selectedBy_phase (ph := .puDrv) fun _ _ => rfl, fun s ha hph => ?_⟩
  rw [exec_puDrv, execPuDrv, perform_of_phase (fun _ _ => rfl) (by decide) ha hph, outEnable_eq]
  rfl

/-- Settles O30: the operation writes `PWMCLK_EN` and `DPHASE`, and leaves `OCR` and `STATUS`
(spec/43_power_controller.md R159). -/
theorem puClkStartsPwmClock : Obligations.PuClkStartsPwmClock := by
  refine ⟨selectedBy_phase (ph := .puClk) fun _ _ => rfl, fun s ha hph => ?_⟩
  rw [exec_puClk, execPuClk, perform_of_phase (fun _ _ => rfl) (by decide) ha hph]
  rfl

end Sys2Proof.Machine
end

section
/-!
PROOFS. The dispatcher's own operations (spec/44_dispatcher.md): `CLR`, which ends the pass (R176). The row and
the enabling condition are those of every operation that its phase alone selects.
-/

namespace Sys2Proof.Machine

/-- `clearTick` writes `TICKFLAG` alone (spec/44_dispatcher.md R176). -/
theorem clearTick_eq (s : State) : clearTick s = { s with tickflag := false } := rfl

theorem exec_clr (s : State) : exec .clr s = execClr s := rfl

/-- `CLR` withdraws the tick whatever `TICKFLAG` holds: its phase alone enables it. -/
theorem exec_clr_of_phase {s : State} (ha : stateRefusal s = none) (hph : s.dphase = .clear) :
    exec .clr s = .next ((clearTick s).setDphase .wait) :=
  (exec_clr s).trans (perform_of_phase (ph := .clear) (fun _ _ => rfl) (by decide) ha hph _)

/-- Settles O33: the row examines `SRC` and `PH` alone, and the operation writes `TICKFLAG`, by `clearTick`, and
`DPHASE` (spec/44_dispatcher.md R176). -/
theorem clrClearsTickFlag : Obligations.ClrClearsTickFlag := by
  refine ⟨selectedBy_phase (ph := .clear) fun _ _ => rfl, fun s ha hph => ?_⟩
  rw [exec_clr_of_phase ha hph, clearTick_eq]
  rfl

end Sys2Proof.Machine
end

section
/-!
PROOFS. The operation map (spec/30_encoding.md R87, R88, R91): every operation is decoded from exactly the words of
its row, the selector holds the codes of its four fields, and what the words of no row mean.
-/

namespace Sys2Proof.Machine

/-! ### The rows -/

/-- Every operation is selected by the words of its own row of the map, and by no others. -/
theorem selectedBy_row (i : Instr) : selectedBy i i.row.bits i.row.mask := by
  cases i with
  | tov => exact selectedBy_tov
  | pci => exact selectedBy_pci
  | dbIdle => exact selectedBy_debounce .unknown
  | dbArm => exact selectedBy_debounce .triggered
  | dbRun => exact selectedBy_debounce .debouncing
  | dbCommit => exact selectedBy_debounce .debounced
  | mOff => exact selectedBy_mode (md := .off) rfl
  | mMax => exact selectedBy_mode (md := .max) rfl
  | mBlink => exact selectedBy_mode (md := .blink) rfl
  | start => exact selectedBy_phase (ph := .wait) fun _ _ => rfl
  | pdClk => exact selectedBy_phase (ph := .pdClk) fun _ _ => rfl
  | pdDrv => exact selectedBy_phase (ph := .pdDrv) fun _ _ => rfl
  | pdLed => exact selectedBy_phase (ph := .pdLed) fun _ _ => rfl
  | sleep => exact selectedBy_phase (ph := .sleep) fun _ _ => rfl
  | poll => exact selectedBy_phase (ph := .poll) fun _ _ => rfl
  | puDrv => exact selectedBy_phase (ph := .puDrv) fun _ _ => rfl
  | puClk => exact selectedBy_phase (ph := .puClk) fun _ _ => rfl
  | stat => exact selectedBy_phase (ph := .status) fun _ _ => rfl
  | clr => exact selectedBy_phase (ph := .clear) fun _ _ => rfl

theorem row_bits_and_mask (i : Instr) : i.row.bits &&& i.row.mask = i.row.bits := by cases i <;> decide

/-- A word of a row is the row's match value with the unexamined fields taken from the word itself. -/
theorem encodeWith_self {i : Instr} {w : Sel} (h : w &&& i.row.mask = i.row.bits) : encodeWith i w = w :=
  calc encodeWith i w
      = (w &&& i.row.mask) ||| (w &&& ~~~i.row.mask) := by rw [h]; rfl
    _ = w &&& (i.row.mask ||| ~~~i.row.mask) := BitVec.and_or_distrib_left.symm
    _ = w := by rw [BitVec.or_not_self, BitVec.and_allOnes]

/-- Settles O4: the encoder writes words of the row, and a decoded word is one (spec/30_encoding.md R88). -/
theorem decodeEncodeAgree : Obligations.DecodeEncodeAgree := by
  refine fun i _ => ⟨fun rest => ?_, fun w hw => ?_⟩
  · exact (selectedBy_row i _).mpr (eq_of_beq (Laws.encodes_its_row i (row_bits_and_mask i) rest))
  · exact encodeWith_self ((selectedBy_row i w).mp hw)

/-- Settles O5: each word is a word of its operation's row. -/
theorem mapWordsDecode : Obligations.MapWordsDecode :=
  ⟨(selectedBy_row .tov _).mpr rfl, (selectedBy_row .pci _).mpr rfl, (selectedBy_row .start _).mpr rfl,
    (selectedBy_row .dbIdle _).mpr rfl, (selectedBy_row .dbArm _).mpr rfl, (selectedBy_row .dbRun _).mpr rfl,
    (selectedBy_row .dbCommit _).mpr rfl, (selectedBy_row .mOff _).mpr rfl, (selectedBy_row .mMax _).mpr rfl,
    (selectedBy_row .mBlink _).mpr rfl, (selectedBy_row .poll _).mpr rfl, (selectedBy_row .clr _).mpr rfl⟩

/-! ### The fields of the selector -/

section
variable (s : State)

theorem selNow_srcBits : (selNow s).extractLsb' 8 2 = (sourceNow s).code :=
  (Source.code_ofCode _).symm.trans (congrArg Source.code (Sel.src_make _ _ _ _))

theorem selNow_phBits : (selNow s).extractLsb' 4 4 = s.dphase.code :=
  (Phase.code_ofCode _).symm.trans (congrArg Phase.code (Sel.ph_make _ _ _ _))

theorem selNow_bsBits : (selNow s).extractLsb' 2 2 = s.bstate.code :=
  (BState.code_ofCode _).symm.trans (congrArg BState.code (Sel.bs_make _ _ _ _))

theorem selNow_mdBits : (selNow s).extractLsb' 0 2 = s.mode.code :=
  (Mode.code_ofCode _).symm.trans (congrArg Mode.code (Sel.md_make _ _ _ _))

end

/-- Settles O6: a field of `SEL` reads back the code it was made of, and the codes are the tables of
spec/30_encoding.md R82 to R85. -/
theorem selectorHoldsStateCodes : Obligations.SelectorHoldsStateCodes := by
  refine ⟨fun s => ⟨selNow_srcBits s, selNow_phBits s, selNow_bsBits s, selNow_mdBits s⟩, ?_⟩
  decide

/-! ### The words of no row -/

theorem decodeDispatcher_of_reserved {ph : Phase} (h : phaseReserved ph = true) (bs : BState) (md : Mode) :
    decodeDispatcher ph bs md = .error .reservedPhase := by
  cases ph with
  | reserved13 | reserved14 | reserved15 => rfl
  | _ => cases h

theorem phaseReserved_ofCode : ∀ c : BitVec 4, 13#4 ≤ c → phaseReserved (Phase.ofCode c) = true := by decide

section
variable {w : Sel}

theorem decode_of_reserved_source (hs : w.extractLsb' 8 2 = 3#2) : decode w = .error .reservedSource := by
  rw [decode, Sel.src, hs]; rfl

/-- With the code 0 in `SRC` the other three fields decide. -/
theorem decode_of_dispatcher_source (hs : w.extractLsb' 8 2 = 0#2) :
    decode w = decodeDispatcher w.ph w.bs w.md := by
  rw [decode, Sel.src, hs]; rfl

end

end Sys2Proof.Machine
end

section
/-!
PROOFS. What `exec` answers (spec/00_scope.md R12): every operation is performed under the same two guards, so a
refused state and a disabled operation are refused by name; and the results of the debounce, mode and pass
operations and of the primitives.
-/

namespace Sys2Proof.Machine

/-! ### The guards of every operation -/

/-- Every operation is performed under the guards of `perform`. -/
theorem exec_eq_perform (i : Instr) : ∃ body, ∀ s, exec i s = perform i s body := by
  cases i <;> exact ⟨_, fun _ => rfl⟩

theorem exec_of_refused {s : State} {r : Refusal} (h : stateRefusal s = some r) (i : Instr) :
    exec i s = .refused r := by
  obtain ⟨body, hbody⟩ := exec_eq_perform i
  rw [hbody, perform, h]

theorem step_of_refused {s : State} {r : Refusal} (h : stateRefusal s = some r) : step s = .refused r := by
  rw [step, h]

/-- An operation completes only in an admitted state that enables it. -/
theorem admitted_and_enabled_of_exec {i : Instr} {s t : State} (h : exec i s = .next t) :
    stateRefusal s = none ∧ enabled i s = true := by
  obtain ⟨body, hbody⟩ := exec_eq_perform i
  obtain ⟨ha, he, -⟩ := perform_eq_next ((hbody s).symm.trans h)
  exact ⟨ha, he⟩

theorem exec_of_disabled {i : Instr} {s : State} (ha : stateRefusal s = none) (he : enabled i s = false) :
    exec i s = .refused (.notEnabled i.mnemonic) := by
  obtain ⟨body, hbody⟩ := exec_eq_perform i
  rw [hbody, perform_of_disabled ha he]

/-- Settles O12, from the second guard of `perform`. -/
theorem disabledOperationRefused : Obligations.DisabledOperationRefused :=
  fun _ _ => exec_of_disabled

theorem inRange_eq_false_iff (s : State) :
    inRange s = false ↔
      s.cfg.tickDiv ≤ s.subdiv ∨ s.cfg.effectLen ≤ s.eidx ∨ s.cfg.statusDiv ≤ s.statcnt ∨
        s.cfg.blinkDelay < s.mdelay ∨ 2 ^ s.cfg.dutyW ≤ s.ocr ∨ 2 ^ s.cfg.cntW ≤ s.countdown ∨
        2 ^ s.cfg.cntW ≤ s.good ∨ 2 ^ s.cfg.cntW ≤ s.lastduty := by
  rw [← Bool.not_eq_true, inRange_iff]
  simp only [not_and_or, not_lt, not_le]

theorem phaseReserved_iff (ph : Phase) :
    phaseReserved ph = true ↔ ph = .reserved13 ∨ ph = .reserved14 ∨ ph = .reserved15 := by
  cases ph <;> decide

/-- Settles O13: each clause is one branch of the check that both `step` and `exec` make first. -/
theorem meaninglessStatesRefused : Obligations.MeaninglessStatesRefused := by
  intro s
  have refuses {r : Refusal} (h : stateRefusal s = some r) :
      step s = .refused r ∧ ∀ i, exec i s = .refused r := ⟨step_of_refused h, exec_of_refused h⟩
  refine ⟨fun hwf => refuses ?_, fun hwf hmode => refuses ?_, fun hwf hmode hph => refuses ?_,
    fun hwf hmode hph hrange => refuses ?_⟩
  · simp [stateRefusal, hwf]
  · simp [stateRefusal, hwf, hmode]
  · simp [stateRefusal, hwf, hmode, (phaseReserved_iff _).mpr hph]
  · simp [stateRefusal, hwf, hmode, hph, (inRange_eq_false_iff s).mpr hrange]

/-! ### `DB_RUN` -/

theorem exec_dbRun (s : State) : exec .dbRun s = execDbRun s := rfl

/-- The samples still needed after a tick of the window: one less if the countdown runs, samples are still needed,
and the level is consistent with the target (spec/41_button_debouncer.md R116). -/
def goodAfter (s : State) : Nat :=
  if 0 < s.countdown ∧ 0 < s.good ∧ consistent (pinRead s) (target s) = true then s.good - 1 else s.good

theorem consistent_target_iff (s : State) (l : Level) :
    consistent l (target s) = true ↔ (l = .low ∧ s.bpos = .released) ∨ (l = .high ∧ s.bpos = .pressed) := by
  cases hpos : s.bpos with
  | released => rw [target_of_released hpos]; cases l <;> decide
  | pressed => rw [target_of_pressed hpos]; cases l <;> decide

theorem goodAfter_eq (s : State) :
    goodAfter s = if 0 < s.countdown ∧ 0 < s.good ∧
        ((pinRead s = .low ∧ s.bpos = .released) ∨ (pinRead s = .high ∧ s.bpos = .pressed))
      then s.good - 1 else s.good :=
  if_congr (and_congr_right' (and_congr_right' (consistent_target_iff s _))) rfl rfl

/-- All that taking a sample writes. -/
theorem takeSample_eq (s : State) :
    takeSample s = { s with
      good := if 0 < s.good ∧ consistent (pinRead s) (target s) = true then s.good - 1 else s.good } := by
  by_cases hneed : 0 < s.good
  · by_cases hmatch : consistent (pinRead s) (target s) = true
    · simp [takeSample, hneed, hmatch, State.setGood]
    · simp [takeSample, hmatch]
  · simp [takeSample, hneed]

/-- All that a tick of the window writes; a countdown at 0 stays there. -/
theorem runWindow_eq (s : State) : runWindow s = { s with countdown := s.countdown - 1, good := goodAfter s } := by
  by_cases hrun : 0 < s.countdown
  · rw [runWindow, if_pos hrun, takeSample_eq]
    simp only [goodAfter, hrun, true_and]
    rfl
  · rw [runWindow, if_neg hrun, goodAfter, if_neg fun h => hrun h.1, show s.countdown - 1 = s.countdown by omega]

/-- All that the end of the window writes. -/
theorem decideWindow_eq (s : State) :
    decideWindow s = { s with
      bstate := if s.countdown = 0 then (if s.good = 0 then .debounced else .unknown) else s.bstate } := by
  by_cases hend : s.countdown = 0
  · by_cases hneed : s.good = 0
    · simp [decideWindow, hend, hneed, State.setBstate]
    · simp [decideWindow, hend, hneed, State.setBstate]
  · simp [decideWindow, hend]

theorem exec_dbRun_of_debouncing {s : State} (ha : stateRefusal s = none) (hph : s.dphase = .debounce)
    (hbs : s.bstate = .debouncing) :
    exec .dbRun s = .next { s with
      countdown := s.countdown - 1
      good := goodAfter s
      bstate := if s.countdown - 1 = 0 then (if goodAfter s = 0 then .debounced else .unknown) else .debouncing
      dphase := .mode } := by
  rw [exec_dbRun, execDbRun, perform_of_enabled (i := .dbRun) ha (enabled_debounce hph hbs), decideWindow_eq,
    runWindow_eq, ← hbs]
  rfl

/-- Settles O19: the sample, the countdown and the decision one after the other in the same operation
(spec/41_button_debouncer.md R116, decision D11). -/
theorem dbRunSamplesAndDecides : Obligations.DbRunSamplesAndDecides := by
  refine ⟨selectedBy_row .dbRun, fun s ha hph hbs left need hleft hneed => ?_⟩
  have hleft : left = s.countdown - 1 := by rw [hleft]; split <;> omega
  have hneed : need = goodAfter s := hneed.trans (goodAfter_eq s).symm
  rw [hleft, hneed]
  exact exec_dbRun_of_debouncing ha hph hbs

/-! ### The mode operations that apply a duty -/

theorem exec_mMax (s : State) : exec .mMax s = execMMax s := rfl

theorem exec_mBlink (s : State) : exec .mBlink s = execMBlink s := rfl

/-- Settles O22: the two branches of the delay gate (spec/42_mode_scheduler.md R132, R133). -/
theorem mMaxAppliesMaxDuty : Obligations.MMaxAppliesMaxDuty := by
  refine ⟨selectedBy_row .mMax, fun s ha hph hmode => ?_⟩
  rw [exec_mMax, execMMax, perform_of_enabled (i := .mMax) ha (enabled_mode hph hmode rfl)]
  exact ⟨fun hd => gate_held hd _, fun hd => gate_open hd _⟩

/-- The table of a configuration of R8 has an entry at every index below `EFFECT_LEN`. -/
theorem effect_entry {c : Config} (hwf : c.wf = true) {i : Nat} (hi : i < c.effectLen) :
    ∃ e, c.effect[i]? = some e ∧ tblRead c i = some e := by
  obtain ⟨-, -, hlen, -⟩ := (config_wf_iff c).mp hwf
  exact ⟨_, List.getElem?_eq_getElem (hlen ▸ hi), tblRead_eq hlen hi⟩

theorem blinkStep_eq {s : State} {e : Nat} (h : tblRead s.cfg s.eidx = some e) :
    blinkStep s = .next { s with
      mdelay := s.cfg.blinkDelay, eidx := (s.eidx + 1) % s.cfg.effectLen, lastduty := e
      ocr := e % 2 ^ s.cfg.dutyW, dphase := .status } := by
  rw [blinkStep, h]
  rfl

/-- Settles O23: the two branches of the delay gate; an admitted `EIDX` is inside the table
(spec/42_mode_scheduler.md R132, R134). -/
theorem mBlinkStepsThroughTable : Obligations.MBlinkStepsThroughTable := by
  refine ⟨selectedBy_row .mBlink, fun s ha hph hmode => ?_⟩
  rw [exec_mBlink, execMBlink, perform_of_enabled (i := .mBlink) ha (enabled_mode hph hmode rfl)]
  refine ⟨fun hd => gate_held hd _, fun hd => ?_⟩
  obtain ⟨hwf, -, -, hrange⟩ := (stateRefusal_eq_none_iff s).mp ha
  obtain ⟨-, hidx, -⟩ := (inRange_iff s).mp hrange
  obtain ⟨e, hentry, hread⟩ := effect_entry hwf hidx
  exact ⟨e, hentry, (gate_open hd _).trans (blinkStep_eq hread)⟩

/-- Settles O34: the read is in range exactly below `EFFECT_LEN`, and each primitive is one write. -/
theorem tableReadAndPulseOutputPrimitives : Obligations.TableReadAndPulseOutputPrimitives := by
  refine ⟨fun c i hwf => ⟨effect_entry hwf, fun hi => if_neg (Nat.not_lt.mpr hi)⟩, setLevel_eq,
    fun s v hv => Nat.mod_eq_of_lt hv, fun s => ⟨outEnable_eq s, outDisable_eq s⟩⟩

/-! ### The operations that frame a pass -/

theorem exec_start (s : State) : exec .start s = execStart s := rfl

theorem exec_stat (s : State) : exec .stat s = execStat s := rfl

theorem exec_start_of_flag {s : State} (ha : stateRefusal s = none) (hph : s.dphase = .wait)
    (hflag : s.tickflag = true) : exec .start s = .next { s with dphase := .debounce } :=
  (exec_start s).trans (perform_of_enabled (i := .start) ha (by simp [enabled, tickPending, hph, hflag]) _)

/-- All that counting the pass writes: `STATCNT`, and `STATUS` when the count wraps. -/
theorem countPass_eq (s : State) :
    countPass s = { s with
      statcnt := if s.statcnt + 1 = s.cfg.statusDiv then 0 else s.statcnt + 1
      status := if s.statcnt + 1 = s.cfg.statusDiv then !s.status else s.status } := by
  by_cases hwrap : s.statcnt + 1 = s.cfg.statusDiv
  · simp [countPass, upCount, upWraps, hwrap, State.setStatcnt, State.setStatus]
  · simp [countPass, upCount, upWraps, hwrap, State.setStatcnt]

/-- Settles O32: the divider counts in the same operation that moves on (spec/44_dispatcher.md R174). -/
theorem statDividesAndToggles : Obligations.StatDividesAndToggles := by
  refine ⟨selectedBy_row .stat, fun s ha hph => ?_⟩
  rw [exec_stat, execStat, perform_of_phase (ph := .status) (fun _ _ => rfl) (by decide) ha hph, countPass_eq]
  rfl

theorem powerState_eq_asleep_iff (s : State) : powerState s = .asleep ↔ s.dphase = .asleep := by
  by_cases h : s.dphase = .asleep <;> simp [powerState, h]

/-- Settles O35: a port shows its register, and `sleep_req` compares the phase with `P_ASLEEP`
(spec/10_state.md R44). -/
theorem portsShowRegisters : Obligations.PortsShowRegisters := by
  intro s
  have hreq : (outPorts s).sleepReq = true ↔ s.dphase = .asleep := beq_iff_eq
  exact ⟨rfl, rfl, rfl, rfl, hreq, hreq.trans (powerState_eq_asleep_iff s).symm⟩

end Sys2Proof.Machine
end

section
/-!
PROOFS. What an operation leads to, said once: the next state of each operation as a function, that `exec` answers
it exactly in an admitted state that enables the operation, which operation a step selects (spec/30_encoding.md
R89), and what the step answers.
-/

namespace Sys2Proof.Machine

/-! ### The next state of an operation -/

/-- The table entry that `M_BLINK` applies; outside the table, which no admitted state reads, 0. -/
def entryAt (c : Config) (i : Nat) : Nat := (c.effect[i]?).getD 0

/-- The state to which each operation leads where it is enabled (tied to `exec` by `exec_eq_next_iff`). -/
def nextState : Instr → State → State
  | .tov, s => { s with
      subdiv := if s.subdiv + 1 = s.cfg.tickDiv then 0 else s.subdiv + 1
      tickflag := if s.subdiv + 1 = s.cfg.tickDiv then true else s.tickflag
      dphase := if s.dphase = .asleep then .poll else s.dphase }
  | .pci, s => { s with
      bstate := if s.bstate = .unknown then .triggered else s.bstate
      dphase := if s.dphase = .asleep then .poll else s.dphase }
  | .start, s => { s with dphase := .debounce }
  | .dbIdle, s => { s with dphase := .mode }
  | .dbArm, s => { s with
      countdown := timeoutFor s.cfg (target s), good := timeoutFor s.cfg (target s) / 2
      bstate := .debouncing, dphase := .mode }
  | .dbRun, s => { s with
      countdown := s.countdown - 1
      good := goodAfter s
      bstate := if s.countdown - 1 = 0 then (if goodAfter s = 0 then .debounced else .unknown) else .debouncing
      dphase := .mode }
  | .dbCommit, s => { s with
      bpos := target s, mode := if s.bpos = .released then modeAdvance s.mode else s.mode
      bstate := .unknown, dphase := .mode }
  | .mOff, s => { s with dphase := .pdClk }
  | .mMax, s => { s with
      mdelay := s.mdelay - 1
      lastduty := if s.mdelay = 0 then s.cfg.maxModeDuty else s.lastduty
      eidx := if s.mdelay = 0 then 0 else s.eidx
      ocr := if s.mdelay = 0 then s.cfg.maxModeDuty % 2 ^ s.cfg.dutyW else s.ocr
      dphase := .status }
  | .mBlink, s => { s with
      mdelay := if s.mdelay = 0 then s.cfg.blinkDelay else s.mdelay - 1
      lastduty := if s.mdelay = 0 then entryAt s.cfg s.eidx else s.lastduty
      eidx := if s.mdelay = 0 then (s.eidx + 1) % s.cfg.effectLen else s.eidx
      ocr := if s.mdelay = 0 then entryAt s.cfg s.eidx % 2 ^ s.cfg.dutyW else s.ocr
      dphase := .status }
  | .pdClk, s => { s with pwmclkEn := false, dphase := .pdDrv }
  | .pdDrv, s => { s with outEn := false, dphase := .pdLed }
  | .pdLed, s => { s with status := false, dphase := .sleep }
  | .sleep, s => { s with dphase := .asleep }
  | .poll, s => { s with dphase := if pinRead s = .high then .puDrv else .sleep }
  | .puDrv, s => { s with outEn := true, dphase := .puClk }
  | .puClk, s => { s with pwmclkEn := true, dphase := .status }
  | .stat, s => { s with
      statcnt := if s.statcnt + 1 = s.cfg.statusDiv then 0 else s.statcnt + 1
      status := if s.statcnt + 1 = s.cfg.statusDiv then !s.status else s.status
      dphase := .clear }
  | .clr, s => { s with tickflag := false, dphase := .wait }

@[simp] theorem nextState_cfg (i : Instr) (s : State) : (nextState i s).cfg = s.cfg := by cases i <;> rfl

@[simp] theorem nextState_env (i : Instr) (s : State) : (nextState i s).env = s.env := by cases i <;> rfl

theorem exec_dbCommit_eq {s : State} (ha : stateRefusal s = none) (hph : s.dphase = .debounce)
    (hbs : s.bstate = .debounced) : exec .dbCommit s = .next (nextState .dbCommit s) := by
  rw [exec_dbCommit_of_debounced ha hph hbs]
  cases hpos : s.bpos with
  | released => rw [commitTarget_of_released hpos]; simp [nextState, target_of_released, hpos]; rfl
  | pressed => rw [commitTarget_of_pressed hpos]; simp [nextState, target_of_pressed, hpos]; rfl

theorem exec_mMax_eq {s : State} (ha : stateRefusal s = none) (hph : s.dphase = .mode)
    (hmode : s.mode = .max) : exec .mMax s = .next (nextState .mMax s) := by
  obtain ⟨hheld, hopen⟩ := mMaxAppliesMaxDuty.2 s ha hph hmode
  by_cases hd : s.mdelay = 0
  · simp [hopen hd, nextState, hd]
  · simp [hheld hd, nextState, hd]

theorem exec_mBlink_eq {s : State} (ha : stateRefusal s = none) (hph : s.dphase = .mode)
    (hmode : s.mode = .blink) : exec .mBlink s = .next (nextState .mBlink s) := by
  obtain ⟨hheld, hopen⟩ := mBlinkStepsThroughTable.2 s ha hph hmode
  by_cases hd : s.mdelay = 0
  · obtain ⟨e, hentry, hexec⟩ := hopen hd
    simp [hexec, nextState, entryAt, hd, hentry]
  · simp [hheld hd, nextState, hd]

/-- An admitted state performs an enabled operation, from the result statement of each. -/
theorem exec_of_enabled {i : Instr} {s : State} (ha : stateRefusal s = none) (he : enabled i s = true) :
    exec i s = .next (nextState i s) := by
  cases i with
  | tov => exact tovCountsAndWakes.2 s ha
  | pci => exact pciTriggersAndWakes.2 s ha
  | start =>
    obtain ⟨hph, hflag⟩ : s.dphase = .wait ∧ s.tickflag = true := by simpa [enabled, tickPending] using he
    exact exec_start_of_flag ha hph hflag
  | dbIdle =>
    obtain ⟨hph, hbs⟩ : s.dphase = .debounce ∧ s.bstate = .unknown := by simpa [enabled] using he
    exact dbIdleOnlyMovesOn.2 s ha hph hbs
  | dbArm =>
    obtain ⟨hph, hbs⟩ : s.dphase = .debounce ∧ s.bstate = .triggered := by simpa [enabled] using he
    exact exec_dbArm_of_triggered ha hph hbs
  | dbRun =>
    obtain ⟨hph, hbs⟩ : s.dphase = .debounce ∧ s.bstate = .debouncing := by simpa [enabled] using he
    exact exec_dbRun_of_debouncing ha hph hbs
  | dbCommit =>
    obtain ⟨hph, hbs⟩ : s.dphase = .debounce ∧ s.bstate = .debounced := by simpa [enabled] using he
    exact exec_dbCommit_eq ha hph hbs
  | mOff =>
    obtain ⟨hph, hmode⟩ : s.dphase = .mode ∧ s.mode = .off := by simpa [enabled] using he
    exact mOffEntersShutdown.2 s ha hph hmode
  | mMax =>
    obtain ⟨hph, hmode⟩ : s.dphase = .mode ∧ s.mode = .max := by simpa [enabled] using he
    exact exec_mMax_eq ha hph hmode
  | mBlink =>
    obtain ⟨hph, hmode⟩ : s.dphase = .mode ∧ s.mode = .blink := by simpa [enabled] using he
    exact exec_mBlink_eq ha hph hmode
  | pdClk => exact pdClkStopsPwmClock.2 s ha (eq_of_beq he)
  | pdDrv => exact pdDrvDisablesPinDriver.2 s ha (eq_of_beq he)
  | pdLed => exact pdLedTurnsIndicatorOff.2 s ha (eq_of_beq he)
  | sleep => exact sleepEntersAsleep.2 s ha (eq_of_beq he)
  | poll => exact exec_poll_of_phase ha (eq_of_beq he)
  | puDrv => exact puDrvEnablesPinDriver.2 s ha (eq_of_beq he)
  | puClk => exact puClkStartsPwmClock.2 s ha (eq_of_beq he)
  | stat => exact statDividesAndToggles.2 s ha (eq_of_beq he)
  | clr => exact clrClearsTickFlag.2 s ha (eq_of_beq he)

/-- The one inversion of `exec`: when an operation completes, and to which state. -/
theorem exec_eq_next_iff {i : Instr} {s t : State} :
    exec i s = .next t ↔ stateRefusal s = none ∧ enabled i s = true ∧ t = nextState i s := by
  constructor
  · intro h
    obtain ⟨ha, he⟩ := admitted_and_enabled_of_exec h
    rw [exec_of_enabled ha he] at h
    exact ⟨ha, he, (Host.Outcome.next.inj h).symm⟩
  · rintro ⟨ha, he, rfl⟩
    exact exec_of_enabled ha he

/-! ### Enabled operations and the selector -/

/-- A dispatcher operation is enabled exactly where the registers decode to it, `START` with its flag. -/
theorem enabled_iff_decodeDispatcher {i : Instr} (hi : i.agent = .dispatcher) (s : State) :
    enabled i s = true ↔
      decodeDispatcher s.dphase s.bstate s.mode = .ok i ∧ (i = .start → tickPending s = true) := by
  refine ⟨fun he => ?_, fun ⟨hdec, hflag⟩ => enabled_of_decodeDispatcher hdec hflag⟩
  cases i with
  | tov | pci => cases hi
  | _ =>
    simp only [enabled, Bool.and_eq_true, beq_iff_eq] at he
    simp [decodeDispatcher, decodeDebounce, decodeMode, he]

/-- An event's operation is enabled in every state (spec/30_encoding.md R89). -/
theorem enabled_of_event {i : Instr} (hi : i.agent ≠ .dispatcher) (s : State) : enabled i s = true := by
  cases i with
  | tov | pci => rfl
  | _ => exact absurd rfl hi

/-- An enabled dispatcher operation finds the block in the phase that its row names. -/
theorem dphase_of_enabled {i : Instr} (hi : i.agent = .dispatcher) {s : State} (he : enabled i s = true) :
    s.dphase = i.row.bits.ph :=
  (decodeDispatcher_phase ((enabled_iff_decodeDispatcher hi s).mp he).1).symm

/-- The present selector decodes to an operation exactly when its agent acts and, for the dispatcher, the registers
decode to it. -/
theorem decode_selNow_eq_ok_iff (s : State) (i : Instr) :
    decode (selNow s) = .ok i ↔ i.agent.source = sourceNow s ∧
      (i.agent = .dispatcher → decodeDispatcher s.dphase s.bstate s.mode = .ok i) := by
  rw [decode_selNow]
  constructor
  · intro h
    have hsrc : sourceNow s = i.agent.source := by
      rw [← decode_selNow] at h
      exact (Sel.src_make _ _ _ _).symm.trans (decode_src h)
    refine ⟨hsrc.symm, fun hi => ?_⟩
    rw [hsrc, hi] at h
    exact h
  · rintro ⟨hsrc, hdec⟩
    rw [← hsrc]
    cases i with
    | tov | pci => rfl
    | _ => exact hdec rfl

theorem select_eq_operation_iff (s : State) (i : Instr) :
    select s = .operation i ↔ decode (selNow s) = .ok i ∧ (i = .start → tickPending s = true) := by
  refine ⟨select_eq_operation, fun ⟨hdec, hflag⟩ => ?_⟩
  have hgo : ¬(i = .start ∧ tickPending s = false) := fun ⟨hs, hf⟩ => by simp [hflag hs] at hf
  simp [select, hdec, hgo]

/-- A step selects an operation exactly when its agent acts and the operation is enabled. -/
theorem select_eq_operation_iff_enabled (s : State) (i : Instr) :
    select s = .operation i ↔ i.agent.source = sourceNow s ∧ enabled i s = true := by
  rw [select_eq_operation_iff, decode_selNow_eq_ok_iff]
  by_cases hi : i.agent = .dispatcher
  · simp only [enabled_iff_decodeDispatcher hi, hi, forall_const, and_assoc]
  · have hns : i ≠ .start := fun hs => hi (hs ▸ rfl)
    simp only [enabled_of_event hi, hi, hns, false_implies, and_true]

/-- Settles O8; the equivalence does not need the state to be admitted (spec/30_encoding.md R89). -/
theorem selectedOperationIsEnabledOne : Obligations.SelectedOperationIsEnabledOne :=
  fun s i _ => select_eq_operation_iff_enabled s i

/-- The dispatcher holds: it sleeps, or waits with the flag clear (spec/30_encoding.md R91). -/
def Holding (s : State) : Prop := s.dphase = .asleep ∨ (s.dphase = .wait ∧ s.tickflag = false)

/-- The registers of an admitted state decode to an operation in every phase but `P_ASLEEP`. -/
theorem decodeDispatcher_of_admitted {s : State} (ha : stateRefusal s = none) (hph : s.dphase ≠ .asleep) :
    ∃ i, decodeDispatcher s.dphase s.bstate s.mode = .ok i := by
  obtain ⟨-, hmode, hlegal, -⟩ := (stateRefusal_eq_none_iff s).mp ha
  cases h : s.dphase with
  | asleep => exact absurd h hph
  | reserved13 | reserved14 | reserved15 => rw [h] at hlegal; cases hlegal
  | mode =>
    cases hm : s.mode with
    | reserved => exact absurd hm hmode
    | _ => exact ⟨_, rfl⟩
  | _ => exact ⟨_, rfl⟩

theorem enabled_dispatcher_iff_not_holding {s : State} (ha : stateRefusal s = none) :
    (∃ i : Instr, i.agent = .dispatcher ∧ enabled i s = true) ↔ ¬Holding s := by
  constructor
  · rintro ⟨i, hi, he⟩ hhold
    obtain ⟨hdec, hflag⟩ := (enabled_iff_decodeDispatcher hi s).mp he
    obtain hph | ⟨hph, hclear⟩ := hhold
    · rw [hph] at hdec; cases hdec
    · rw [hph] at hdec; cases hdec
      exact Bool.false_ne_true (hclear.symm.trans (hflag rfl))
  · intro hrun
    obtain ⟨i, hdec⟩ := decodeDispatcher_of_admitted ha fun h => hrun (.inl h)
    refine ⟨i, decodeDispatcher_agent hdec, enabled_of_decodeDispatcher hdec fun hs => ?_⟩
    have hph : s.dphase = .wait := (decodeDispatcher_phase hdec).symm.trans (by rw [hs]; rfl)
    exact eq_true_of_ne_false fun hclear => hrun (.inr ⟨hph, hclear⟩)

/-- Settles O9: the registers decode to one operation at most, and to none exactly where the dispatcher holds. -/
theorem oneDispatcherOperationUnlessHolding : Obligations.OneDispatcherOperationUnlessHolding := by
  refine fun s ha => ⟨fun i j hi hj hei hej => ?_, enabled_dispatcher_iff_not_holding ha⟩
  obtain ⟨hdi, -⟩ := (enabled_iff_decodeDispatcher hi s).mp hei
  obtain ⟨hdj, -⟩ := (enabled_iff_decodeDispatcher hj s).mp hej
  exact Except.ok.inj (hdi.symm.trans hdj)

/-! ### The step -/

/-- An admitted state whose agent acts performs the enabled operation and moves the environment on. -/
theorem step_of_enabled {i : Instr} {s : State} (ha : stateRefusal s = none) (hsrc : i.agent.source = sourceNow s)
    (he : enabled i s = true) : step s = .next (advanceEnv (nextState i s)) := by
  simp [step, ha, (select_eq_operation_iff_enabled s i).mpr ⟨hsrc, he⟩, exec_of_enabled ha he]

theorem select_of_holding {s : State} (hsrc : sourceNow s = .dispatcher) (hhold : Holding s) :
    select s = .hold := by
  obtain hph | ⟨hph, hclear⟩ := hhold
  · simp [select, hsrc, hph, decode_selNow, decodeFields, decodeDispatcher, selectionOfError]
  · simp [select, hsrc, hph, decode_selNow, decodeFields, decodeDispatcher, tickPending, hclear]

theorem step_of_holding {s : State} (ha : stateRefusal s = none) (hsrc : sourceNow s = .dispatcher)
    (hhold : Holding s) : step s = .next (advanceEnv s) := by
  simp [step, ha, select_of_holding hsrc hhold]

theorem step_of_reserved_source {s : State} (ha : stateRefusal s = none) (hsrc : sourceNow s = .reserved) :
    step s = .refused .reservedSource := by
  simp [step, ha, select, decode_selNow, hsrc, decodeFields, selectionOfError]

/-- Everything a step that answers does: it holds, changing no register, or completes the selected operation. -/
theorem step_cases {s t : State} (h : step s = .next t) :
    stateRefusal s = none ∧
      ((select s = .hold ∧ t = advanceEnv s) ∨
        ∃ i, select s = .operation i ∧ enabled i s = true ∧ t = advanceEnv (nextState i s)) := by
  obtain ⟨ha, hhold | ⟨i, u, hsel, hexec, rfl⟩⟩ := step_eq_next h
  · exact ⟨ha, .inl hhold⟩
  · obtain ⟨-, he, rfl⟩ := exec_eq_next_iff.mp hexec
    exact ⟨ha, .inr ⟨i, hsel, he, rfl⟩⟩

/-- Settles O14: an event's operation is always enabled, and the dispatcher operates or holds. -/
theorem admittedStateAlwaysSteps : Obligations.AdmittedStateAlwaysSteps := by
  intro s ha hsrc
  cases hnow : sourceNow s with
  | reserved => exact absurd hnow hsrc
  | tov => exact ⟨_, step_of_enabled (i := .tov) ha hnow.symm rfl⟩
  | pc => exact ⟨_, step_of_enabled (i := .pci) ha hnow.symm rfl⟩
  | dispatcher =>
    by_cases hhold : Holding s
    · exact ⟨_, step_of_holding ha hnow hhold⟩
    · obtain ⟨i, hi, he⟩ := (enabled_dispatcher_iff_not_holding ha).mpr hhold
      exact ⟨_, step_of_enabled ha (by rw [hi, hnow]; rfl) he⟩

/-- Settles O7: the words by their fields, the holds and the reserved source by `select`. -/
theorem unselectedValuesHoldOrRefuse : Obligations.UnselectedValuesHoldOrRefuse := by
  refine ⟨fun w =>
      ⟨decode_of_reserved_source, fun hsrc hph => ?_, fun hsrc hph hmd => ?_, fun hsrc hph => ?_⟩,
    fun s ha hsrc hhold => step_of_holding ha hsrc hhold, fun s ha hsrc => step_of_reserved_source ha hsrc⟩
  · rw [decode_of_dispatcher_source hsrc, Sel.ph, hph]; rfl
  · rw [decode_of_dispatcher_source hsrc, Sel.ph, hph, Sel.md, hmd]; rfl
  · exact (decode_of_dispatcher_source hsrc).trans (decodeDispatcher_of_reserved (phaseReserved_ofCode _ hph) _ _)

/-- Settles O10: with the row's extra condition met, the step selects the decoded operation. -/
theorem stepRunsDecodedOperation : Obligations.StepRunsDecodedOperation := by
  intro s i _ ha hdec hflag
  have hsel : select s = .operation i := (select_eq_operation_iff s i).mpr ⟨hdec, hflag⟩
  refine ⟨fun t hexec => ?_, fun r hexec => ?_⟩
  · obtain ⟨-, -, rfl⟩ := exec_eq_next_iff.mp hexec
    simp [step, ha, hsel, hexec, advanceEnv_eq, nextState_env]
  · simp [step, ha, hsel, hexec]

/-- Settles O11, from the two cases of the script. -/
theorem environmentSuppliesInputsInOrder : Obligations.EnvironmentSuppliesInputsInOrder :=
  ⟨fun x r d => ⟨envNow_cons x r d, envNext_cons x r d⟩,
    fun d => ⟨rfl, freeInput_src_ne_reserved d, rfl, envNext_nil d⟩⟩

/-- Settles O31: the flag is the row's extra condition, so without it the operation is disabled and the dispatcher
holds (spec/44_dispatcher.md R171, spec/30_encoding.md R91). -/
theorem startNeedsTickFlag : Obligations.StartNeedsTickFlag := by
  refine ⟨selectedBy_row .start, fun s ha hph hflag => exec_start_of_flag ha hph hflag,
    fun s ha hph hclear => ⟨?_, fun hsrc => step_of_holding ha hsrc (.inr ⟨hph, hclear⟩)⟩⟩
  exact exec_of_disabled (i := .start) ha (by simp [enabled, tickPending, hclear])

end Sys2Proof.Machine
end

section
/-!
PROOFS. Frames (spec/10_state.md R55, R36; spec/60_exceptions.md R192; spec/20_memory.md R65): for each register the
operations that may write it, the phases an operation leads to, and what depends on the environment.
-/

namespace Sys2Proof.Machine

/-! ### The writers of each register -/

section
variable (i : Instr) (s : State)

theorem nextState_ecount : (nextState i s).ecount = s.ecount := by cases i <;> rfl

theorem nextState_subdiv : (nextState i s).subdiv = s.subdiv ∨ i = .tov := by
  cases i with
  | tov => exact .inr rfl
  | _ => exact .inl rfl

theorem nextState_bpos : (nextState i s).bpos = s.bpos ∨ i = .dbCommit := by
  cases i with
  | dbCommit => exact .inr rfl
  | _ => exact .inl rfl

theorem nextState_mode : (nextState i s).mode = s.mode ∨ i = .dbCommit := by
  cases i with
  | dbCommit => exact .inr rfl
  | _ => exact .inl rfl

theorem nextState_window :
    ((nextState i s).countdown = s.countdown ∧ (nextState i s).good = s.good) ∨ i = .dbArm ∨ i = .dbRun := by
  cases i with
  | dbArm => exact .inr (.inl rfl)
  | dbRun => exact .inr (.inr rfl)
  | _ => exact .inl ⟨rfl, rfl⟩

theorem nextState_duty :
    ((nextState i s).mdelay = s.mdelay ∧ (nextState i s).eidx = s.eidx ∧
      (nextState i s).lastduty = s.lastduty ∧ (nextState i s).ocr = s.ocr) ∨ i = .mMax ∨ i = .mBlink := by
  cases i with
  | mMax => exact .inr (.inl rfl)
  | mBlink => exact .inr (.inr rfl)
  | _ => exact .inl ⟨rfl, rfl, rfl, rfl⟩

theorem nextState_statcnt : (nextState i s).statcnt = s.statcnt ∨ i = .stat := by
  cases i with
  | stat => exact .inr rfl
  | _ => exact .inl rfl

theorem nextState_pwmclkEn : (nextState i s).pwmclkEn = s.pwmclkEn ∨
    (i = .pdClk ∧ (nextState i s).pwmclkEn = false) ∨ (i = .puClk ∧ (nextState i s).pwmclkEn = true) := by
  cases i with
  | pdClk => exact .inr (.inl ⟨rfl, rfl⟩)
  | puClk => exact .inr (.inr ⟨rfl, rfl⟩)
  | _ => exact .inl rfl

theorem nextState_outEn : (nextState i s).outEn = s.outEn ∨
    (i = .pdDrv ∧ (nextState i s).outEn = false) ∨ (i = .puDrv ∧ (nextState i s).outEn = true) := by
  cases i with
  | pdDrv => exact .inr (.inl ⟨rfl, rfl⟩)
  | puDrv => exact .inr (.inr ⟨rfl, rfl⟩)
  | _ => exact .inl rfl

theorem nextState_status : (nextState i s).status = s.status ∨
    (i = .pdLed ∧ (nextState i s).status = false) ∨ i = .stat := by
  cases i with
  | pdLed => exact .inr (.inl ⟨rfl, rfl⟩)
  | stat => exact .inr (.inr rfl)
  | _ => exact .inl rfl

end

/-- The overflow handler keeps the flag or sets it. -/
theorem nextState_tov_tickflag (s : State) :
    (nextState .tov s).tickflag = s.tickflag ∨ (nextState .tov s).tickflag = true := by
  by_cases h : s.subdiv + 1 = s.cfg.tickDiv
  · exact .inr (if_pos h)
  · exact .inl (if_neg h)

/-- The pin-change handler keeps `BSTATE` or latches the event in `Unknown`. -/
theorem nextState_pci_bstate (s : State) :
    (nextState .pci s).bstate = s.bstate ∨ (s.bstate = .unknown ∧ (nextState .pci s).bstate = .triggered) := by
  by_cases h : s.bstate = .unknown
  · exact .inr ⟨h, if_pos h⟩
  · exact .inl (if_neg h)

/-- Where an operation changes `BSTATE`, it takes one of the listed transitions (spec/41_button_debouncer.md
R110). -/
theorem nextState_bstate {i : Instr} {s : State} (he : enabled i s = true) :
    (nextState i s).bstate = s.bstate ∨ (i, s.bstate, (nextState i s).bstate) ∈ bstateTransitions := by
  cases i with
  | pci =>
    obtain hkeep | ⟨hbs, hset⟩ := nextState_pci_bstate s
    · exact .inl hkeep
    · rw [hbs, hset]; exact .inr (by decide)
  | dbArm =>
    obtain ⟨-, hbs⟩ : s.dphase = .debounce ∧ s.bstate = .triggered := by simpa [enabled] using he
    right; rw [hbs]; simp [nextState, bstateTransitions]
  | dbRun =>
    obtain ⟨-, hbs⟩ : s.dphase = .debounce ∧ s.bstate = .debouncing := by simpa [enabled] using he
    rw [hbs]
    by_cases hend : s.countdown - 1 = 0
    · by_cases hneed : goodAfter s = 0 <;> simp [nextState, bstateTransitions, hend, hneed]
    · simp [nextState, hend]
  | dbCommit =>
    obtain ⟨-, hbs⟩ : s.dphase = .debounce ∧ s.bstate = .debounced := by simpa [enabled] using he
    right; rw [hbs]; simp [nextState, bstateTransitions]
  | _ => exact .inl rfl

theorem nextState_tickflag (i : Instr) (s : State) : (nextState i s).tickflag = s.tickflag ∨
    (i = .tov ∧ (nextState i s).tickflag = true) ∨ (i = .clr ∧ (nextState i s).tickflag = false) := by
  cases i with
  | tov => exact (nextState_tov_tickflag s).imp_right fun h => .inl ⟨rfl, h⟩
  | clr => exact .inr (.inr ⟨rfl, rfl⟩)
  | _ => exact .inl rfl

/-- Settles O36, register by register. -/
theorem registersHaveNoOtherWriters : Obligations.RegistersHaveNoOtherWriters := by
  intro i s t h
  obtain ⟨-, he, rfl⟩ := exec_eq_next_iff.mp h
  exact ⟨nextState_cfg i s, nextState_env i s, nextState_ecount i s, nextState_subdiv i s, nextState_tickflag i s,
    nextState_bstate he, nextState_bpos i s, nextState_mode i s, nextState_window i s, nextState_duty i s,
    nextState_statcnt i s, nextState_pwmclkEn i s, nextState_outEn i s, nextState_status i s⟩

/-! ### The interrupt context -/

theorem event_iff (i : Instr) : i.agent ≠ .dispatcher ↔ i = .tov ∨ i = .pci := by
  cases i <;> decide

theorem contextOf_eq_interrupt_iff (i : Instr) : contextOf i = .interrupt ↔ i.agent ≠ .dispatcher := by
  cases i <;> decide

/-- All that the wake at the end of a handler does to `DPHASE`. -/
theorem nextState_dphase_of_event {i : Instr} (hi : i.agent ≠ .dispatcher) (s : State) :
    (nextState i s).dphase = if s.dphase = .asleep then .poll else s.dphase := by
  obtain rfl | rfl := (event_iff i).mp hi
  · rfl
  · rfl

/-- All that a handler writes (spec/60_exceptions.md R192). -/
theorem nextState_of_event {i : Instr} (hi : i.agent ≠ .dispatcher) (s : State) :
    nextState i s = { s with
      subdiv := (nextState i s).subdiv, tickflag := (nextState i s).tickflag
      bstate := (nextState i s).bstate, dphase := (nextState i s).dphase } := by
  obtain rfl | rfl := (event_iff i).mp hi
  · rfl
  · rfl

theorem nextState_bstate_of_event {i : Instr} (hi : i.agent ≠ .dispatcher) (s : State) :
    (nextState i s).bstate = s.bstate ∨ (s.bstate = .unknown ∧ (nextState i s).bstate = .triggered) := by
  obtain rfl | rfl := (event_iff i).mp hi
  · exact .inl rfl
  · exact nextState_pci_bstate s

theorem nextState_tickflag_of_event {i : Instr} (hi : i.agent ≠ .dispatcher) {s : State}
    (hflag : s.tickflag = true) : (nextState i s).tickflag = true := by
  obtain rfl | rfl := (event_iff i).mp hi
  · exact (nextState_tov_tickflag s).elim (fun h => h.trans hflag) id
  · exact hflag

/-- Settles O37: the two handlers' writes and their wake. -/
theorem interruptContextWritesOnlyMailboxes : Obligations.InterruptContextWritesOnlyMailboxes := by
  intro i s t hctx h
  obtain ⟨-, -, rfl⟩ := exec_eq_next_iff.mp h
  have hi := (contextOf_eq_interrupt_iff i).mp hctx
  refine ⟨nextState_of_event hi s, nextState_bstate_of_event hi s, ?_, nextState_tickflag_of_event hi⟩
  rw [nextState_dphase_of_event hi]
  by_cases hph : s.dphase = .asleep
  · exact .inr ⟨hph, if_pos hph⟩
  · exact .inl (if_neg hph)

/-! ### The phase -/

theorem nextState_poll_dphase (s : State) :
    (nextState .poll s).dphase = .puDrv ∧ pinRead s = .high ∨ (nextState .poll s).dphase = .sleep := by
  by_cases h : pinRead s = .high
  · exact .inl ⟨if_pos h, h⟩
  · exact .inr (if_neg h)

/-- An enabled dispatcher operation moves `DPHASE` along the table of spec/10_state.md R36. -/
theorem nextState_dphase_mem {i : Instr} {s : State} (hi : i.agent = .dispatcher) (he : enabled i s = true) :
    (s.dphase, (nextState i s).dphase) ∈ phaseSuccessors := by
  rw [dphase_of_enabled hi he]
  cases i with
  | tov | pci => cases hi
  | poll =>
    obtain ⟨hnext, -⟩ | hnext := nextState_poll_dphase s
    · rw [hnext]; decide
    · rw [hnext]; decide
  | _ => exact of_decide_eq_true rfl

/-- Settles O38: the table for the dispatcher, the wake for the handlers. -/
theorem phaseFollowsSuccessorTable : Obligations.PhaseFollowsSuccessorTable := by
  intro i s t h
  obtain ⟨-, he, rfl⟩ := exec_eq_next_iff.mp h
  refine ⟨fun hi => nextState_dphase_mem hi he, fun hi hph => ?_, fun hi hph => ?_⟩
  · rw [nextState_dphase_of_event hi, if_neg hph]
  · rw [nextState_dphase_of_event hi, if_pos hph]

/-! ### What depends on the environment -/

theorem goodAfter_of_zero {s : State} (h : s.good = 0) : goodAfter s = 0 := by
  simp [goodAfter, h]

/-- No operation but `POLL`, and `DB_RUN` while samples are needed, depends on the environment. -/
theorem nextState_setEnv {i : Instr} {s : State} (e : Env) (hpoll : i ≠ .poll)
    (hrun : i = .dbRun → s.good = 0) : nextState i (s.setEnv e) = (nextState i s).setEnv e := by
  cases i with
  | poll => exact absurd rfl hpoll
  | dbRun =>
    have hgood : goodAfter (s.setEnv e) = goodAfter s :=
      (goodAfter_of_zero (s := s.setEnv e) (hrun rfl)).trans (goodAfter_of_zero (hrun rfl)).symm
    rw [nextState, hgood]; rfl
  | _ => rfl

theorem enabled_setEnv (i : Instr) (s : State) (e : Env) : enabled i (s.setEnv e) = enabled i s := by
  cases i <;> rfl

/-- Settles O57: the guards read no input, and `nextState` reads one for `POLL` and a sampling `DB_RUN` alone. -/
theorem levelReadOnlyByPollAndSampling : Obligations.LevelReadOnlyByPollAndSampling := by
  intro i s t e hpoll hrun h
  obtain ⟨ha, he, rfl⟩ := exec_eq_next_iff.mp h
  exact exec_eq_next_iff.mpr
    ⟨ha, (enabled_setEnv i s e).trans he, (nextState_setEnv e hpoll hrun).symm⟩

end Sys2Proof.Machine
end

section
/-!
PROOFS. The invariants (spec/10_state.md R56, spec/43_power_controller.md R161): they hold after reset, every
operation keeps them, so does every step, and no run from a state that meets them stops.
-/

namespace Sys2Proof.Machine

/-! ### Every operation keeps a state admitted -/

theorem timeoutFor_lt {c : Config} (hwf : c.wf = true) (p : BPos) : timeoutFor c p < 2 ^ c.cntW := by
  obtain ⟨-, -, -, -, -, -, -, -, hpress, hrelease, -⟩ := (config_wf_iff c).mp hwf
  cases p with
  | pressed => exact hpress
  | released => exact hrelease

theorem entryAt_lt {c : Config} (hwf : c.wf = true) (k : Nat) : entryAt c k < 2 ^ c.cntW := by
  obtain ⟨-, -, -, -, -, -, -, -, -, -, -, -, -, hfits, -⟩ := (config_wf_iff c).mp hwf
  cases hentry : c.effect[k]? with
  | none => simp [entryAt, hentry]
  | some e => simpa [entryAt, hentry] using hfits e (List.mem_of_getElem? hentry)

theorem goodAfter_le (s : State) : goodAfter s ≤ s.good := by
  unfold goodAfter
  split <;> omega

theorem modeAdvance_ne_reserved {m : Mode} (h : m ≠ .reserved) : modeAdvance m ≠ .reserved := by
  cases m with
  | reserved => exact absurd rfl h
  | _ => decide

/-- A property that `P_ASLEEP` and `P_POLL` share is not touched by a wake. -/
theorem apply_wake {α : Type} (f : Phase → α) (h : f .poll = f .asleep) (p : Phase) :
    f (if p = .asleep then .poll else p) = f p := by
  split
  · next hp => rw [hp, h]
  · rfl

section
variable {s : State} (i : Instr)

theorem nextState_mode_ne_reserved (h : s.mode ≠ .reserved) : (nextState i s).mode ≠ .reserved := by
  cases i with
  | dbCommit =>
    simp only [nextState]
    split
    · exact modeAdvance_ne_reserved h
    · exact h
  | _ => exact h

theorem nextState_phaseReserved (h : phaseReserved s.dphase = false) :
    phaseReserved (nextState i s).dphase = false := by
  cases i with
  | tov | pci => exact (apply_wake phaseReserved rfl s.dphase).trans h
  | poll =>
    obtain ⟨hnext, -⟩ | hnext := nextState_poll_dphase s
    · rw [hnext]; rfl
    · rw [hnext]; rfl
  | _ => rfl

theorem nextState_subdiv_lt (h : s.subdiv < s.cfg.tickDiv) : (nextState i s).subdiv < s.cfg.tickDiv := by
  cases i with
  | tov => exact upCount_lt h
  | _ => exact h

theorem nextState_statcnt_lt (h : s.statcnt < s.cfg.statusDiv) :
    (nextState i s).statcnt < s.cfg.statusDiv := by
  cases i with
  | stat => exact upCount_lt h
  | _ => exact h

theorem nextState_eidx_lt (h : s.eidx < s.cfg.effectLen) : (nextState i s).eidx < s.cfg.effectLen := by
  cases i with
  | mMax =>
    simp only [nextState]
    split <;> omega
  | mBlink =>
    simp only [nextState]
    split
    · exact Nat.mod_lt _ (by omega)
    · exact h
  | _ => exact h

theorem nextState_mdelay_le (h : s.mdelay ≤ s.cfg.blinkDelay) :
    (nextState i s).mdelay ≤ s.cfg.blinkDelay := by
  cases i with
  | mMax => exact (Nat.sub_le _ _).trans h
  | mBlink =>
    simp only [nextState]
    split <;> omega
  | _ => exact h

theorem nextState_ocr_lt (h : s.ocr < 2 ^ s.cfg.dutyW) : (nextState i s).ocr < 2 ^ s.cfg.dutyW := by
  cases i with
  | mMax | mBlink =>
    simp only [nextState]
    split
    · exact trunc_lt _ _
    · exact h
  | _ => exact h

theorem nextState_lastduty_lt (hwf : s.cfg.wf = true) (h : s.lastduty < 2 ^ s.cfg.cntW) :
    (nextState i s).lastduty < 2 ^ s.cfg.cntW := by
  cases i with
  | mMax =>
    obtain ⟨-, -, -, -, -, -, -, -, -, -, -, -, -, -, hmax⟩ := (config_wf_iff s.cfg).mp hwf
    simp only [nextState]
    split
    · exact hmax
    · exact h
  | mBlink =>
    simp only [nextState]
    split
    · exact entryAt_lt hwf _
    · exact h
  | _ => exact h

theorem nextState_countdown_lt (hwf : s.cfg.wf = true) (h : s.countdown < 2 ^ s.cfg.cntW) :
    (nextState i s).countdown < 2 ^ s.cfg.cntW := by
  cases i with
  | dbArm => exact timeoutFor_lt hwf _
  | dbRun => exact (Nat.sub_le _ _).trans_lt h
  | _ => exact h

theorem nextState_good_lt (hwf : s.cfg.wf = true) (h : s.good < 2 ^ s.cfg.cntW) :
    (nextState i s).good < 2 ^ s.cfg.cntW := by
  cases i with
  | dbArm => exact (Nat.div_le_self _ _).trans_lt (timeoutFor_lt hwf _)
  | dbRun => exact (goodAfter_le s).trans_lt h
  | _ => exact h

/-- Every operation leads from an admitted state to an admitted state. -/
theorem nextState_admitted (ha : stateRefusal s = none) : stateRefusal (nextState i s) = none := by
  obtain ⟨hwf, hmode, hph, hrange⟩ := (stateRefusal_eq_none_iff s).mp ha
  obtain ⟨hsub, hidx, hstat, hdelay, hocr, hcount, hgood, hduty⟩ := (inRange_iff s).mp hrange
  rw [stateRefusal_eq_none_iff, inRange_iff, nextState_cfg]
  exact ⟨hwf, nextState_mode_ne_reserved i hmode, nextState_phaseReserved i hph, nextState_subdiv_lt i hsub,
    nextState_eidx_lt i hidx, nextState_statcnt_lt i hstat, nextState_mdelay_le i hdelay, nextState_ocr_lt i hocr,
    nextState_countdown_lt i hwf hcount, nextState_good_lt i hwf hgood, nextState_lastduty_lt i hwf hduty⟩

end

/-! ### The invariant of the reachable states -/

theorem timeoutFor_le_maxTimeout (c : Config) (p : BPos) : timeoutFor c p ≤ maxTimeout c := by
  cases p with
  | pressed => exact le_max_left _ _
  | released => exact le_max_right _ _

section
variable {s : State} (i : Instr)

theorem nextState_countdown_le (h : s.countdown ≤ maxTimeout s.cfg) :
    (nextState i s).countdown ≤ maxTimeout s.cfg := by
  cases i with
  | dbArm => exact timeoutFor_le_maxTimeout _ _
  | dbRun => exact (Nat.sub_le _ _).trans h
  | _ => exact h

theorem nextState_good_le (h : s.good ≤ maxTimeout s.cfg / 2) :
    (nextState i s).good ≤ maxTimeout s.cfg / 2 := by
  cases i with
  | dbArm => exact Nat.div_le_div_right (timeoutFor_le_maxTimeout _ _)
  | dbRun => exact (goodAfter_le s).trans h
  | _ => exact h

end

/-- The relations of the debounce window alone (the last three clauses of `ReachableInv`). -/
structure WindowInv (s : State) : Prop where
  runs : s.bstate = .debouncing → 0 < s.countdown ∨ (timeoutFor s.cfg (target s) = 0 ∧ s.good = 0)
  le : s.bstate = .debouncing →
    s.countdown ≤ timeoutFor s.cfg (target s) ∧ s.good ≤ timeoutFor s.cfg (target s) / 2
  done : s.bstate = .debounced → s.countdown = 0 ∧ s.good = 0

theorem ReachableInv.window {s : State} (h : ReachableInv s) : WindowInv s :=
  ⟨h.debouncing_runs, h.debouncing_le, h.debounced_done⟩

/-- Where neither `Debouncing` nor `Debounced` holds, the window has no relations. -/
theorem WindowInv.of_idle {s : State} (hrun : s.bstate ≠ .debouncing) (hdone : s.bstate ≠ .debounced) :
    WindowInv s :=
  ⟨fun h => absurd h hrun, fun h => absurd h hrun, fun h => absurd h hdone⟩

/-- `DB_ARM` loads the window with the timeout of the target. -/
theorem nextState_dbArm_window (s : State) : WindowInv (nextState .dbArm s) := by
  have hload : 0 < timeoutFor s.cfg (target s) ∨
      (timeoutFor s.cfg (target s) = 0 ∧ timeoutFor s.cfg (target s) / 2 = 0) := by omega
  exact ⟨fun _ => hload, fun _ => ⟨le_refl _, le_refl _⟩, nofun⟩

/-- `DB_RUN` goes on debouncing only while the countdown runs, and accepts only with no sample needed. -/
theorem nextState_dbRun_window {s : State} (h : WindowInv s) (hbs : s.bstate = .debouncing) :
    WindowInv (nextState .dbRun s) := by
  obtain ⟨hcount, hgood⟩ := h.le hbs
  have hle : s.countdown - 1 ≤ timeoutFor s.cfg (target s) ∧ goodAfter s ≤ timeoutFor s.cfg (target s) / 2 :=
    ⟨(Nat.sub_le _ _).trans hcount, (goodAfter_le s).trans hgood⟩
  by_cases hend : s.countdown - 1 = 0
  · by_cases hneed : goodAfter s = 0
    · have hnow : (nextState .dbRun s).bstate = .debounced := by simp [nextState, hend, hneed]
      exact ⟨fun h' => by simp [hnow] at h', fun _ => hle, fun _ => ⟨hend, hneed⟩⟩
    · have hnow : (nextState .dbRun s).bstate = .unknown := by simp [nextState, hend, hneed]
      exact .of_idle (by simp [hnow]) (by simp [hnow])
  · have hnow : (nextState .dbRun s).bstate = .debouncing := by simp [nextState, hend]
    exact ⟨fun _ => .inl (Nat.pos_of_ne_zero hend), fun _ => hle, fun h' => by simp [hnow] at h'⟩

theorem nextState_window_inv {i : Instr} {s : State} (h : WindowInv s) (he : enabled i s = true) :
    WindowInv (nextState i s) := by
  cases i with
  | dbArm => exact nextState_dbArm_window s
  | dbRun =>
    obtain ⟨-, hbs⟩ : s.dphase = .debounce ∧ s.bstate = .debouncing := by simpa [enabled] using he
    exact nextState_dbRun_window h hbs
  | dbCommit => exact .of_idle nofun nofun
  | pci =>
    by_cases hbs : s.bstate = .unknown
    · have hnow : (nextState .pci s).bstate = .triggered := if_pos hbs
      exact .of_idle (by simp [hnow]) (by simp [hnow])
    · have hnow : (nextState .pci s).bstate = s.bstate := if_neg hbs
      exact ⟨fun h' => h.runs (hnow ▸ h'), fun h' => h.le (hnow ▸ h'), fun h' => h.done (hnow ▸ h')⟩
  | _ => exact ⟨h.runs, h.le, h.done⟩

theorem ReachableInv.nextState {i : Instr} {s : State} (h : ReachableInv s) (he : enabled i s = true) :
    ReachableInv (nextState i s) := by
  obtain ⟨hruns, hle, hdone⟩ := nextState_window_inv h.window he
  refine ⟨nextState_admitted i h.admitted, ?_, ?_, ?_, hruns, hle, hdone⟩
  · rw [nextState_ecount, nextState_cfg]; exact h.ecount_eq
  · rw [nextState_cfg]; exact nextState_countdown_le i h.countdown_le
  · rw [nextState_cfg]; exact nextState_good_le i h.good_le

/-- The invariant does not speak of the environment. -/
theorem ReachableInv.advanceEnv {s : State} (h : ReachableInv s) : ReachableInv (advanceEnv s) :=
  ⟨h.admitted, h.ecount_eq, h.countdown_le, h.good_le, h.debouncing_runs, h.debouncing_le, h.debounced_done⟩

/-- Settles O40: a hold keeps every register, and an operation keeps the ranges and the window's relations. -/
theorem stepKeepsReachableInv : Obligations.StepKeepsReachableInv := by
  intro s t h hstep
  obtain ⟨-, ⟨-, rfl⟩ | ⟨i, -, he, rfl⟩⟩ := step_cases hstep
  · exact h.advanceEnv
  · exact (h.nextState he).advanceEnv

theorem resetWith_admitted {c : Config} (hwf : c.wf = true) : stateRefusal (State.resetWith c) = none := by
  obtain ⟨htick, hlen, -, -, -, -, hstat, -⟩ := (config_wf_iff c).mp hwf
  rw [stateRefusal_eq_none_iff, inRange_iff]
  exact ⟨hwf, nofun, rfl, htick, hlen, hstat, Nat.zero_le _, Nat.two_pow_pos _, Nat.two_pow_pos _,
    Nat.two_pow_pos _, Nat.two_pow_pos _⟩

/-- Settles O39: the counters are 0 and `BSTATE` is `Unknown`. -/
theorem resetMeetsReachableInv : Obligations.ResetMeetsReachableInv := fun _ hwf =>
  ⟨resetWith_admitted hwf, rfl, Nat.zero_le _, Nat.zero_le _, nofun, nofun, nofun⟩

/-! ### The invariant of the power sequence -/

section
variable {i : Instr} {s : State}

theorem nextState_tick_set (he : enabled i s = true) (h : s.dphase ≠ .wait → s.tickflag = true) :
    (nextState i s).dphase ≠ .wait → (nextState i s).tickflag = true := by
  cases i with
  | tov | pci =>
    intro hph
    have hnow : s.dphase ≠ .wait := fun hw => hph (by simp [nextState, hw])
    exact nextState_tickflag_of_event (by decide) (h hnow)
  | start =>
    obtain ⟨-, hflag⟩ : s.dphase = .wait ∧ s.tickflag = true := by simpa [enabled, tickPending] using he
    exact fun _ => hflag
  | clr => exact fun hph => absurd rfl hph
  | _ => exact fun _ => h (by rw [dphase_of_enabled rfl he]; decide)

theorem nextState_mode_off (he : enabled i s = true) (h : powerPhase s.dphase = true → s.mode = .off) :
    powerPhase (nextState i s).dphase = true → (nextState i s).mode = .off := by
  cases i with
  | tov | pci => exact fun hph => h ((apply_wake powerPhase rfl s.dphase).symm.trans hph)
  | mOff =>
    obtain ⟨-, hmode⟩ : s.dphase = .mode ∧ s.mode = .off := by simpa [enabled] using he
    exact fun _ => hmode
  | pdClk | pdDrv | pdLed | sleep | poll | puDrv => exact fun _ => h (by rw [dphase_of_enabled rfl he]; rfl)
  | _ => exact nofun

theorem nextState_clock (he : enabled i s = true) (h : s.pwmclkEn = !clockOffPhase s.dphase) :
    (nextState i s).pwmclkEn = !clockOffPhase (nextState i s).dphase := by
  cases i with
  | tov | pci => exact h.trans (congrArg not (apply_wake clockOffPhase rfl s.dphase).symm)
  | pdClk | puClk => rfl
  | poll =>
    rw [dphase_of_enabled rfl he] at h
    obtain ⟨hnext, -⟩ | hnext := nextState_poll_dphase s
    · rw [hnext]; exact h
    · rw [hnext]; exact h
  | _ => rw [dphase_of_enabled rfl he] at h; exact h

theorem nextState_driver (he : enabled i s = true) (h : s.outEn = !driverOffPhase s.dphase) :
    (nextState i s).outEn = !driverOffPhase (nextState i s).dphase := by
  cases i with
  | tov | pci => exact h.trans (congrArg not (apply_wake driverOffPhase rfl s.dphase).symm)
  | pdDrv | puDrv => rfl
  | poll =>
    rw [dphase_of_enabled rfl he] at h
    obtain ⟨hnext, -⟩ | hnext := nextState_poll_dphase s
    · rw [hnext]; exact h
    · rw [hnext]; exact h
  | _ => rw [dphase_of_enabled rfl he] at h; exact h

theorem nextState_indicator (he : enabled i s = true)
    (h : indicatorOffPhase s.dphase = true → s.status = false) :
    indicatorOffPhase (nextState i s).dphase = true → (nextState i s).status = false := by
  cases i with
  | tov | pci => exact fun hph => h ((apply_wake indicatorOffPhase rfl s.dphase).symm.trans hph)
  | pdLed => exact fun _ => rfl
  | sleep | poll | puDrv => exact fun _ => h (by rw [dphase_of_enabled rfl he]; rfl)
  | _ => exact nofun

theorem PowerInv.nextState (h : PowerInv s) (he : enabled i s = true) : PowerInv (nextState i s) :=
  ⟨nextState_tick_set he h.tick_set, nextState_mode_off he h.mode_off, nextState_clock he h.clock,
    nextState_driver he h.driver, nextState_indicator he h.indicator⟩

/-- The invariant does not speak of the environment. -/
theorem PowerInv.advanceEnv (h : PowerInv s) : PowerInv (advanceEnv s) :=
  ⟨h.tick_set, h.mode_off, h.clock, h.driver, h.indicator⟩

end

/-- Settles O42: a hold keeps every register, and each operation keeps each clause. -/
theorem stepKeepsPowerInv : Obligations.StepKeepsPowerInv := by
  intro s t h hstep
  obtain ⟨-, ⟨-, rfl⟩ | ⟨i, -, he, rfl⟩⟩ := step_cases hstep
  · exact h.advanceEnv
  · exact (h.nextState he).advanceEnv

/-- Settles O41: the block waits, with clock and driver on. -/
theorem resetMeetsPowerInv : Obligations.ResetMeetsPowerInv := fun _ =>
  ⟨fun h => absurd rfl h, nofun, rfl, rfl, nofun⟩

/-! ### Runs -/

/-- Settles O43: an admitted state steps, and both invariants are kept. -/
theorem invariantStatesStepOn : Obligations.InvariantStatesStepOn := by
  intro s hreach hpower hsrc
  obtain ⟨t, hstep⟩ := admittedStateAlwaysSteps s hreach.admitted hsrc
  exact ⟨t, hstep, stepKeepsReachableInv s t hreach hstep, stepKeepsPowerInv s t hpower hstep⟩

/-- A step takes one input, whatever else it does. -/
theorem step_env {s t : State} (h : step s = .next t) : t.env = envNext s.env := by
  obtain ⟨-, ⟨-, rfl⟩ | ⟨i, -, -, rfl⟩⟩ := step_cases h
  · rfl
  · rw [advanceEnv_eq, nextState_env]

theorem envNext_script (e : Env) : (envNext e).script = e.script.tail := by
  obtain ⟨script, draws⟩ := e
  cases script <;> rfl

/-- A script without the reserved source never supplies it, and neither do the free inputs after it. -/
theorem sourceNow_ne_reserved {s : State} (h : ∀ x ∈ s.env.script, x.src ≠ .reserved) :
    sourceNow s ≠ .reserved := by
  unfold sourceNow envNow
  split
  · next x rest hscript => exact h x (by simp [hscript])
  · exact freeInput_src_ne_reserved _

/-- Settles O44, by induction on the number of steps. -/
theorem runsNeverStop : Obligations.RunsNeverStop := by
  intro n
  induction n with
  | zero => exact fun s hreach hpower _ => ⟨s, rfl, hreach, hpower⟩
  | succ n ih =>
    intro s hreach hpower hscript
    obtain ⟨u, hstep, hreach', hpower'⟩ := invariantStatesStepOn s hreach hpower (sourceNow_ne_reserved hscript)
    rw [run_of_step hstep]
    refine ih u hreach' hpower' fun x hx => hscript x ?_
    rw [step_env hstep, envNext_script] at hx
    exact List.mem_of_mem_tail hx

/-- Settles O2: the dispatcher waits with the flag clear, and the handlers are always enabled. -/
theorem afterResetOnlyEventsOperate : Obligations.AfterResetOnlyEventsOperate := by
  refine fun c x rest d hwf => ⟨fun hsrc => ?_, fun hsrc => ?_, fun hsrc => ?_⟩
  · exact step_of_holding (resetWith_admitted hwf) hsrc (.inr ⟨rfl, rfl⟩)
  · exact (select_eq_operation_iff_enabled _ .tov).mpr ⟨hsrc.symm, rfl⟩
  · exact (select_eq_operation_iff_enabled _ .pci).mpr ⟨hsrc.symm, rfl⟩

end Sys2Proof.Machine
end

section
/-!
PROOFS. Safety over every step: what changes the mode (spec/41_button_debouncer.md R122, R123), and what enters and
leaves the sleep loop and the sleep state (spec/43_power_controller.md R161, spec/60_exceptions.md R198,
spec/40_tick_source.md R105).
-/

namespace Sys2Proof.Machine

/-! ### The mode -/

/-- Settles O53: `DB_COMMIT` alone writes `MODE`, and only where the target is `Pressed`. -/
theorem modeAdvancesOnlyOnCommittedPress : Obligations.ModeAdvancesOnlyOnCommittedPress := by
  intro s t hstep hchange
  obtain ⟨ha, ⟨-, rfl⟩ | ⟨i, hsel, -, rfl⟩⟩ := step_cases hstep
  · exact absurd rfl hchange
  obtain rfl : i = .dbCommit := (nextState_mode i s).resolve_left hchange
  obtain ⟨-, hlegal, -, -⟩ := (stateRefusal_eq_none_iff s).mp ha
  cases hpos : s.bpos with
  | pressed => exact absurd (if_neg (by simp [hpos])) hchange
  | released =>
    have hmode : (advanceEnv (nextState .dbCommit s)).mode = modeAdvance s.mode := if_pos hpos
    refine ⟨hsel, rfl, target_of_released hpos, ?_⟩
    rw [hmode]
    cases hm : s.mode with
    | reserved => exact absurd hm hlegal
    | _ => decide

/-- An operation selected in `Unknown` by a source other than a pin change keeps `Unknown`, the mode and the
committed position. -/
theorem nextState_of_unknown {i : Instr} {s : State} (hbs : s.bstate = .unknown) (he : enabled i s = true)
    (hi : i ≠ .pci) :
    (nextState i s).bstate = .unknown ∧ (nextState i s).mode = s.mode ∧ (nextState i s).bpos = s.bpos := by
  have hcommit : i ≠ .dbCommit := by
    rintro rfl
    simp [enabled, hbs] at he
  refine ⟨?_, (nextState_mode i s).resolve_right hcommit, (nextState_bpos i s).resolve_right hcommit⟩
  obtain hkeep | hmove := nextState_bstate he
  · exact hkeep.trans hbs
  · simp [bstateTransitions, hbs, hi] at hmove

/-- One step of spec/41_button_debouncer.md R122. -/
theorem step_of_unknown {s t : State} (hbs : s.bstate = .unknown) (hsrc : sourceNow s ≠ .pc)
    (hstep : step s = .next t) : t.bstate = .unknown ∧ t.mode = s.mode ∧ t.bpos = s.bpos := by
  obtain ⟨-, ⟨-, rfl⟩ | ⟨i, hsel, he, rfl⟩⟩ := step_cases hstep
  · exact ⟨hbs, rfl, rfl⟩
  · refine nextState_of_unknown hbs he ?_
    rintro rfl
    exact hsrc ((select_eq_operation_iff_enabled s .pci).mp hsel).1.symm

theorem run_succ_eq_next {n : Nat} {s t : State} (h : Host.Core.run Sys2Proof.core (n + 1) s = .next t) :
    ∃ u, step s = .next u ∧ Host.Core.run Sys2Proof.core n u = .next t := by
  cases hstep : step s with
  | next u => exact ⟨u, rfl, (run_of_step hstep).symm.trans h⟩
  | fault r => exact nomatch r
  | refused r => exact nomatch (run_of_refused hstep).symm.trans h

/-- Settles O52, by induction on the number of steps, each of which takes the next input of the script. -/
theorem noPinChangeNoModeChange : Obligations.NoPinChangeNoModeChange := by
  intro n
  induction n with
  | zero =>
    intro s t hbs _ _ hrun
    obtain rfl : s = t := Host.Outcome.next.inj hrun
    exact ⟨hbs, rfl, rfl⟩
  | succ n ih =>
    intro s t hbs hlen hscript hrun
    obtain ⟨u, hstep, hrest⟩ := run_succ_eq_next hrun
    have henv : u.env.script = s.env.script.tail := by rw [step_env hstep, envNext_script]
    have hsrc : sourceNow s ≠ .pc := by
      unfold sourceNow envNow
      split
      · next x rest hcons => exact hscript x (by simp [hcons])
      · next hnil => simp [hnil] at hlen
    obtain ⟨hbs', hmode, hpos⟩ := step_of_unknown hbs hsrc hstep
    have hlen' : n ≤ u.env.script.length := by rw [henv, List.length_tail]; omega
    have hscript' : ∀ x ∈ u.env.script, x.src ≠ .pc := fun x hx =>
      hscript x (List.mem_of_mem_tail (henv ▸ hx))
    obtain ⟨hend, hmode', hpos'⟩ := ih u t hbs' hlen' hscript' hrest
    exact ⟨hend, hmode'.trans hmode, hpos'.trans hpos⟩

/-! ### The sleep loop and the sleep state -/

/-- The operation that a phase alone selects is the only dispatcher operation enabled in it. -/
theorem eq_of_enabled_of_phase {i j : Instr} {s : State} (hi : i.agent = .dispatcher) (he : enabled i s = true)
    (hj : ∀ bs md, decodeDispatcher s.dphase bs md = .ok j) : i = j := by
  obtain ⟨hdec, -⟩ := (enabled_iff_decodeDispatcher hi s).mp he
  exact Except.ok.inj (hdec.symm.trans (hj _ _))

/-- Along the table of spec/10_state.md R36 the loop is left from `P_POLL` to `P_PU_DRV` only. -/
theorem phaseSuccessors_sleepLoop : ∀ p ∈ phaseSuccessors, sleepLoopPhase p.1 = true →
    sleepLoopPhase p.2 = true ∨ p = (.poll, .puDrv) := by decide

/-- Along the table `P_ASLEEP` is entered from `P_SLEEP` only. -/
theorem phaseSuccessors_asleep : ∀ p ∈ phaseSuccessors, p.2 = .asleep → p.1 = .sleep := by decide

/-- Settles O54: the wake stays in the loop, and the table's one way out is `POLL` with a high level. -/
theorem sleepLoopLeftOnlyOnRelease : Obligations.SleepLoopLeftOnlyOnRelease := by
  intro s t hstep hloop
  obtain ⟨-, ⟨-, rfl⟩ | ⟨i, hsel, he, rfl⟩⟩ := step_cases hstep
  · exact .inl hloop
  by_cases hi : i.agent = .dispatcher
  · obtain hstay | hleave := phaseSuccessors_sleepLoop _ (nextState_dphase_mem hi he) hloop
    · exact .inl hstay
    · obtain ⟨hph, hnext⟩ := Prod.mk.inj hleave
      obtain rfl : i = .poll := eq_of_enabled_of_phase hi he fun _ _ => by rw [hph]; rfl
      obtain ⟨-, hhigh⟩ | hsleep := nextState_poll_dphase s
      · exact .inr ⟨hsel, hhigh, hnext⟩
      · exact nomatch hsleep.symm.trans hnext
  · have hnext : (nextState i s).dphase = if s.dphase = .asleep then .poll else s.dphase :=
      nextState_dphase_of_event hi s
    left
    change sleepLoopPhase (nextState i s).dphase = true
    rw [hnext, apply_wake sleepLoopPhase rfl, hloop]

theorem powerState_eq_running_iff (s : State) : powerState s = .running ↔ s.dphase ≠ .asleep := by
  by_cases h : s.dphase = .asleep <;> simp [powerState, h]

/-- A sleeping block performs the two handlers only. -/
theorem event_of_asleep {i : Instr} {s : State} (hph : s.dphase = .asleep) (he : enabled i s = true) :
    i.agent ≠ .dispatcher := by
  intro hi
  obtain ⟨hdec, -⟩ := (enabled_iff_decodeDispatcher hi s).mp he
  rw [hph] at hdec
  cases hdec

/-- A step that enters the sleep state performs `SLEEP`. -/
theorem select_sleep_of_asleep {s t : State} (hstep : step s = .next t) (hrun : s.dphase ≠ .asleep)
    (hnext : t.dphase = .asleep) : select s = .operation .sleep := by
  obtain ⟨-, ⟨-, rfl⟩ | ⟨i, hsel, he, rfl⟩⟩ := step_cases hstep
  · exact absurd hnext hrun
  by_cases hi : i.agent = .dispatcher
  · have hph : s.dphase = .sleep := phaseSuccessors_asleep _ (nextState_dphase_mem hi he) hnext
    obtain rfl : i = .sleep := eq_of_enabled_of_phase hi he fun _ _ => by rw [hph]; rfl
    exact hsel
  · have hkeep : (nextState i s).dphase = s.dphase := by rw [nextState_dphase_of_event hi, if_neg hrun]
    exact absurd (hkeep.symm.trans hnext) hrun

/-- A step of a sleeping block holds, or wakes it by a handler. -/
theorem step_of_asleep {s t : State} (hstep : step s = .next t) (hph : s.dphase = .asleep) :
    t = advanceEnv s ∨
      ∃ i, i.agent ≠ .dispatcher ∧ select s = .operation i ∧ t = advanceEnv (nextState i s) := by
  obtain ⟨-, ⟨-, ht⟩ | ⟨i, hsel, he, ht⟩⟩ := step_cases hstep
  · exact .inl ht
  · exact .inr ⟨i, event_of_asleep hph he, hsel, ht⟩

/-- A step that leaves the sleep state performs a handler and goes to `P_POLL`. -/
theorem wake_of_running {s t : State} (hstep : step s = .next t) (hph : s.dphase = .asleep)
    (hrun : t.dphase ≠ .asleep) :
    (select s = .operation .tov ∨ select s = .operation .pci) ∧ t.dphase = .poll := by
  obtain rfl | ⟨i, hi, hsel, rfl⟩ := step_of_asleep hstep hph
  · exact absurd hph hrun
  · refine ⟨?_, (nextState_dphase_of_event hi s).trans (if_pos hph)⟩
    obtain rfl | rfl := (event_iff i).mp hi
    · exact .inl hsel
    · exact .inr hsel

/-- Settles O55: entry by the table, exit and frame by the handlers. -/
theorem sleepEnteredAndLeftOnlySo : Obligations.SleepEnteredAndLeftOnlySo := by
  intro s t hstep
  simp only [powerState_eq_asleep_iff, powerState_eq_running_iff]
  refine ⟨select_sleep_of_asleep hstep, wake_of_running hstep, fun hph => ?_⟩
  obtain rfl | ⟨i, hi, -, rfl⟩ := step_of_asleep hstep hph
  · rfl
  · rw [nextState_of_event hi s]; rfl

/-- Settles O56: in the sleep phase the PWM clock is off, so by the premise no overflow arrives. -/
theorem withoutOverflowsOnlyPinWakes : Obligations.WithoutOverflowsOnlyPinWakes := by
  intro s t hpower hquiet hph hstep hrun
  obtain ⟨htov | hpci, -⟩ := wake_of_running hstep hph hrun
  · have hclock : s.pwmclkEn = false := by rw [hpower.clock, hph]; rfl
    have hsrc : sourceNow s = .tov := ((select_eq_operation_iff_enabled s .tov).mp htov).1.symm
    exact absurd ((hquiet hsrc).symm.trans hclock) (by decide)
  · exact hpci

end Sys2Proof.Machine
end

section
/-!
PROOFS. Interleavings: the two handlers commute (spec/60_exceptions.md R186), `TOV` commutes with every dispatcher
operation but the two it races (spec/20_memory.md R72), and the two races (spec/70_reset_and_hazards.md R221, R223).
-/

namespace Sys2Proof.Machine

/-- Settles O45: the handlers write different registers and wake alike. -/
theorem handlersCommute : Obligations.HandlersCommute := by
  intro s ha
  refine ⟨nextState .tov s, nextState .pci s, nextState .pci (nextState .tov s), exec_of_enabled ha rfl,
    exec_of_enabled (nextState_admitted .tov ha) rfl, exec_of_enabled ha rfl, ?_⟩
  exact exec_eq_next_iff.mpr ⟨nextState_admitted .pci ha, rfl, rfl⟩

/-! ### `TOV` and the dispatcher -/

/-- In a running block `TOV` is the handler's count alone. -/
theorem nextState_tov_of_awake {s : State} (h : s.dphase ≠ .asleep) : nextState .tov s = countOverflow s := by
  rw [countOverflow_eq, nextState, if_neg h]

/-- The count reads and writes `SUBDIV` and `TICKFLAG`, of which a dispatcher operation but `CLR` writes neither. -/
theorem nextState_countOverflow {i : Instr} (hi : i.agent = .dispatcher) (hclr : i ≠ .clr) (s : State) :
    nextState i (countOverflow s) = countOverflow (nextState i s) := by
  rw [countOverflow_eq, countOverflow_eq]
  cases i with
  | tov | pci => cases hi
  | clr => exact absurd rfl hclr
  | _ => rfl

/-- The count only ever sets the flag, so it disables no dispatcher operation. -/
theorem enabled_countOverflow {i : Instr} {s : State} (he : enabled i s = true) :
    enabled i (countOverflow s) = true := by
  rw [countOverflow_eq]
  cases i with
  | start =>
    obtain ⟨hph, hflag⟩ : s.dphase = .wait ∧ s.tickflag = true := by simpa [enabled, tickPending] using he
    simp [enabled, tickPending, hph, hflag]
  | _ => exact he

/-- A dispatcher operation other than `SLEEP` leaves the block awake. -/
theorem nextState_dphase_ne_asleep {i : Instr} {s : State} (hi : i.agent = .dispatcher) (hsleep : i ≠ .sleep)
    (he : enabled i s = true) : (nextState i s).dphase ≠ .asleep := by
  intro hph
  have hfrom : s.dphase = .sleep := phaseSuccessors_asleep _ (nextState_dphase_mem hi he) hph
  exact hsleep (eq_of_enabled_of_phase hi he fun _ _ => by rw [hfrom]; rfl)

/-- Settles O46: neither before nor after the operation does the block sleep, so `TOV` is the count. -/
theorem tovCommutesWithDispatcherOperations : Obligations.TovCommutesWithDispatcherOperations := by
  intro i s t hi hclr hsleep hexec
  obtain ⟨ha, he, rfl⟩ := exec_eq_next_iff.mp hexec
  have hbefore : nextState .tov s = countOverflow s :=
    nextState_tov_of_awake fun hph => event_of_asleep hph he hi
  have hafter : nextState .tov (nextState i s) = countOverflow (nextState i s) :=
    nextState_tov_of_awake (nextState_dphase_ne_asleep hi hsleep he)
  refine ⟨nextState .tov (nextState i s), nextState .tov s, exec_of_enabled (nextState_admitted i ha) rfl,
    exec_of_enabled ha rfl, exec_eq_next_iff.mpr ⟨nextState_admitted .tov ha, ?_, ?_⟩⟩
  · rw [hbefore]; exact enabled_countOverflow he
  · rw [hbefore, hafter, nextState_countOverflow hi hclr]

/-! ### The races -/

/-- Two enabled operations one after the other. -/
theorem resultThen_exec {i j : Instr} {s : State} (ha : stateRefusal s = none) (hi : enabled i s = true)
    (hj : enabled j (nextState i s) = true) :
    resultThen (exec i s) (exec j) = .next (nextState j (nextState i s)) := by
  rw [exec_of_enabled ha hi]
  exact exec_of_enabled (nextState_admitted i ha) hj

/-- Settles O59: `CLR` stores 0 whatever the flag holds, and the overflow that completes a tick stores 1. -/
theorem tickBeforeClearIsLost : Obligations.TickBeforeClearIsLost := by
  intro s ha hph hwrap
  have hclr : enabled .clr s = true := by simp [enabled, hph]
  have hclr' : enabled .clr (nextState .tov s) = true := by simp [enabled, nextState, hph]
  exact ⟨⟨_, resultThen_exec ha rfl hclr', rfl⟩, ⟨_, resultThen_exec ha hclr rfl, if_pos hwrap⟩⟩

/-- Settles O60: in `P_SLEEP` a handler has nothing to wake, and `SLEEP` examines the phase alone. -/
theorem eventBeforeSleepDoesNotWake : Obligations.EventBeforeSleepDoesNotWake := by
  intro s ha hph
  have hpci : enabled .sleep (nextState .pci s) = true := by simp [enabled, nextState, hph]
  have htov : enabled .sleep (nextState .tov s) = true := by simp [enabled, nextState, hph]
  exact ⟨resultThen_exec ha rfl hpci, resultThen_exec ha rfl htov⟩

end Sys2Proof.Machine
end

section
/-!
PROOFS. Overflows in a row (spec/40_tick_source.md R102): the division law, and the token `tick` of the test bench
(spec/30_encoding.md R96).
-/

namespace Sys2Proof.Machine

/-! ### Iterated overflows -/

/-- The state after `n` overflows. -/
def overflows (n : Nat) (s : State) : State := (nextState .tov)^[n] s

theorem overflows_zero (s : State) : overflows 0 s = s := rfl

theorem overflows_succ (n : Nat) (s : State) : overflows (n + 1) s = overflows n (nextState .tov s) := rfl

theorem overflows_succ' (n : Nat) (s : State) : overflows (n + 1) s = nextState .tov (overflows n s) :=
  Function.iterate_succ_apply' _ n s

theorem overflows_admitted {s : State} (ha : stateRefusal s = none) (n : Nat) :
    stateRefusal (overflows n s) = none := by
  induction n with
  | zero => exact ha
  | succ n ih => rw [overflows_succ']; exact nextState_admitted .tov ih

@[simp] theorem overflows_cfg (n : Nat) (s : State) : (overflows n s).cfg = s.cfg := by
  induction n with
  | zero => rfl
  | succ n ih => rw [overflows_succ', nextState_cfg, ih]

theorem tovTimes_eq {s : State} (ha : stateRefusal s = none) (n : Nat) : tovTimes n s = .next (overflows n s) := by
  induction n generalizing s with
  | zero => rfl
  | succ n ih =>
    rw [tovTimes, exec_of_enabled ha rfl, overflows_succ]
    exact ih (nextState_admitted .tov ha)

theorem subdiv_lt_of_admitted {s : State} (ha : stateRefusal s = none) : s.subdiv < s.cfg.tickDiv := by
  obtain ⟨-, -, -, hrange⟩ := (stateRefusal_eq_none_iff s).mp ha
  exact ((inRange_iff s).mp hrange).1

/-- In its range the up-counter is addition modulo `TICK_DIV`. -/
theorem nextState_tov_subdiv {s : State} (h : s.subdiv < s.cfg.tickDiv) :
    (nextState .tov s).subdiv = (s.subdiv + 1) % s.cfg.tickDiv := by
  by_cases hwrap : s.subdiv + 1 = s.cfg.tickDiv
  · simp [nextState, hwrap]
  · simp [nextState, hwrap, Nat.mod_eq_of_lt (show s.subdiv + 1 < s.cfg.tickDiv by omega)]

theorem nextState_tov_tickflag_iff (s : State) :
    (nextState .tov s).tickflag = true ↔ s.tickflag = true ∨ s.subdiv + 1 = s.cfg.tickDiv := by
  by_cases hwrap : s.subdiv + 1 = s.cfg.tickDiv <;> simp [nextState, hwrap]

theorem overflows_subdiv {s : State} (ha : stateRefusal s = none) (n : Nat) :
    (overflows n s).subdiv = (s.subdiv + n) % s.cfg.tickDiv := by
  induction n with
  | zero => exact (Nat.mod_eq_of_lt (subdiv_lt_of_admitted ha)).symm
  | succ n ih =>
    rw [overflows_succ', nextState_tov_subdiv (subdiv_lt_of_admitted (overflows_admitted ha n)), ih,
      overflows_cfg, Nat.mod_add_mod, Nat.add_assoc]

/-- The next overflow completes a tick exactly when the total is a multiple of `TICK_DIV`. -/
theorem overflows_wraps_iff {s : State} (ha : stateRefusal s = none) (n : Nat) :
    (overflows n s).subdiv + 1 = s.cfg.tickDiv ↔ (s.subdiv + (n + 1)) % s.cfg.tickDiv = 0 := by
  have hlt := subdiv_lt_of_admitted (overflows_admitted ha n)
  rw [overflows_cfg] at hlt
  rw [← Nat.add_assoc, ← Nat.mod_add_mod, ← overflows_subdiv ha n, ← Nat.dvd_iff_mod_eq_zero]
  constructor
  · intro h
    rw [h]
  · intro h
    exact le_antisymm hlt (Nat.le_of_dvd (Nat.succ_pos _) h)

theorem overflows_tickflag {s : State} (ha : stateRefusal s = none) (n : Nat) :
    (overflows n s).tickflag = true ↔ s.tickflag = true ∨ s.cfg.tickDiv ≤ s.subdiv + n := by
  have hlt := subdiv_lt_of_admitted ha
  induction n with
  | zero =>
    rw [overflows_zero, or_iff_left (by omega)]
  | succ n ih =>
    rw [overflows_succ', nextState_tov_tickflag_iff, overflows_cfg, overflows_subdiv ha n,
      or_congr_left ih, or_assoc]
    refine or_congr_right ?_
    by_cases hdone : s.cfg.tickDiv ≤ s.subdiv + n
    · simp only [hdone, true_or, true_iff]
      omega
    · rw [Nat.mod_eq_of_lt (by omega)]
      omega

/-- Settles O47, with the four facts about iterated overflows. -/
theorem tovDivisionLaw : Obligations.TovDivisionLaw := by
  intro n s ha
  refine ⟨overflows n s, tovTimes_eq ha n, overflows_subdiv ha n, overflows_tickflag ha n,
    nextState .tov ((overflows n s).setTickflag false), ?_, ?_⟩
  · exact exec_of_enabled (overflows_admitted ha n) rfl
  · rw [nextState_tov_tickflag_iff, ← overflows_wraps_iff ha n]
    simp

/-! ### The test bench -/

/-- The bench after an operation: the block after the operation, and one line of the trace. -/
def afterAct (i : Instr) (b : Bench) : Bench :=
  { b with
    block := advanceEnv (nextState i (offer i.agent.source b))
    trace := b.trace ++
      [⟨some i, selNow (offer i.agent.source b), advanceEnv (nextState i (offer i.agent.source b))⟩] }

theorem offer_eq (src : Source) (b : Bench) :
    offer src b = b.block.setEnv { b.block.env with script := [⟨src, b.pin⟩] } := rfl

/-- On the bench the acting agent performs its enabled operation. -/
theorem act_of_enabled {i : Instr} {b : Bench} (ha : stateRefusal b.block = none)
    (he : enabled i b.block = true) : act i.agent.source b = .next (afterAct i b) := by
  have he' : enabled i (offer i.agent.source b) = true := (enabled_setEnv i b.block _).trans he
  have hsel : select (offer i.agent.source b) = .operation i :=
    (select_eq_operation_iff_enabled _ i).mpr ⟨rfl, he'⟩
  rw [act_of_step (step_of_enabled (s := offer i.agent.source b) ha rfl he'), stepMark, hsel]
  rfl

theorem afterAct_admitted {i : Instr} {b : Bench} (ha : stateRefusal b.block = none) :
    stateRefusal (afterAct i b).block = none :=
  nextState_admitted (s := offer i.agent.source b) i ha

/-- But for the environment, an operation that takes no sample leads where it leads off the bench. -/
theorem afterAct_block {i : Instr} (hpoll : i ≠ .poll) (hrun : i ≠ .dbRun) (b : Bench) :
    ∃ e, (afterAct i b).block = (nextState i b.block).setEnv e := by
  refine ⟨envNext (nextState i (offer i.agent.source b)).env, ?_⟩
  change (nextState i (offer i.agent.source b)).setEnv _ = _
  rw [offer_eq, nextState_setEnv _ hpoll fun h => absurd h hrun]
  rfl

theorem overflows_setEnv (n : Nat) (s : State) (e : Env) :
    overflows n (s.setEnv e) = (overflows n s).setEnv e := by
  induction n with
  | zero => rfl
  | succ n ih => rw [overflows_succ', overflows_succ', ih]; rfl

/-- The bench `b'` is `b` after `n` overflows, which added the lines `lines` to the trace. -/
structure OverflowsOnBench (n : Nat) (b b' : Bench) (lines : List TraceLine) : Prop where
  pin_eq : b'.pin = b.pin
  trace_eq : b'.trace = b.trace ++ lines
  length_eq : lines.length = n
  block_eq : ∃ e, b'.block = (overflows n b.block).setEnv e
  line_eq : ∀ (k : Nat) (l : TraceLine), lines[k]? = some l →
    l.op = some .tov ∧ ∃ e, l.after = (overflows (k + 1) b.block).setEnv e

theorem OverflowsOnBench.zero (b : Bench) : OverflowsOnBench 0 b b [] :=
  ⟨rfl, (List.append_nil _).symm, rfl, ⟨b.block.env, rfl⟩, fun k l h => by simp at h⟩

theorem OverflowsOnBench.succ {n : Nat} {b b' : Bench} {lines : List TraceLine}
    (h : OverflowsOnBench n (afterAct .tov b) b' lines) : ∃ l, OverflowsOnBench (n + 1) b b' (l :: lines) := by
  obtain ⟨hpin, htrace, hlen, ⟨e, hblock⟩, hline⟩ := h
  obtain ⟨e₁, hfirst⟩ := afterAct_block (i := .tov) (by decide) (by decide) b
  have hlater (k : Nat) :
      overflows k (afterAct .tov b).block = (overflows (k + 1) b.block).setEnv e₁ := by
    rw [hfirst, overflows_setEnv, overflows_succ]
  refine ⟨⟨some .tov, selNow (offer .tov b), (afterAct .tov b).block⟩, hpin,
    ?_, by simp [hlen], ⟨e, ?_⟩, ?_⟩
  · rw [htrace]; simp [afterAct, Instr.agent, Agent.source]
  · rw [hblock, hlater]; rfl
  · intro k l hl
    cases k with
    | zero =>
      obtain rfl := Option.some.inj hl
      exact ⟨rfl, e₁, hfirst⟩
    | succ k =>
      obtain ⟨hop, e₂, hafter⟩ := hline k l hl
      exact ⟨hop, e₂, by rw [hafter, hlater]; rfl⟩

/-- The action `tov` repeated is so many overflows. -/
theorem repeatAct_tov (n : Nat) {b : Bench} (ha : stateRefusal b.block = none) :
    ∃ b' lines, repeatAct (act .tov) n b = .next b' ∧ OverflowsOnBench n b b' lines := by
  induction n generalizing b with
  | zero => exact ⟨b, [], rfl, .zero b⟩
  | succ n ih =>
    obtain ⟨b', lines, hrest, hlines⟩ := ih (afterAct_admitted (i := .tov) ha)
    obtain ⟨l, hlines⟩ := hlines.succ
    refine ⟨b', l :: lines, ?_, hlines⟩
    rw [repeatAct_succ]
    exact (congrArg (benchThen · _) (act_of_enabled (i := .tov) ha rfl)).trans hrest

/-- Within one tick, the overflow that wraps is the (`TICK_DIV` - k)-th from `SUBDIV` = k. -/
theorem overflows_wraps_within_tick {s : State} (ha : stateRefusal s = none) {k : Nat} (hk : k < s.cfg.tickDiv) :
    (overflows k s).subdiv + 1 = s.cfg.tickDiv ↔ k + 1 = s.cfg.tickDiv - s.subdiv := by
  have hlt := subdiv_lt_of_admitted ha
  rw [overflows_subdiv ha]
  by_cases hone : s.subdiv + k < s.cfg.tickDiv
  · rw [Nat.mod_eq_of_lt hone]; omega
  · rw [Nat.mod_eq_sub_mod (by omega), Nat.mod_eq_of_lt (by omega)]; omega

/-- Settles O48: the lines of the trace are the iterated overflows, of which exactly one wraps. -/
theorem tickTokenSetsFlagOnce : Obligations.TickTokenSetsFlagOnce := by
  intro b ha
  obtain ⟨b', lines, hrun, hlines⟩ := repeatAct_tov b.block.cfg.tickDiv ha
  obtain ⟨hpin, htrace, hlen, ⟨e, hblock⟩, hline⟩ := hlines
  refine ⟨b', lines, hrun, hpin, htrace, hlen, ?_, ?_, fun k l hl => ?_⟩
  · rw [hblock, State.setEnv_subdiv, overflows_subdiv ha, Nat.add_mod_right]
    exact Nat.mod_eq_of_lt (subdiv_lt_of_admitted ha)
  · rw [hblock, State.setEnv_tickflag]
    exact (overflows_tickflag ha _).mpr (.inr (Nat.le_add_left _ _))
  · obtain ⟨hop, e', hafter⟩ := hline k l hl
    have hk : k < b.block.cfg.tickDiv := hlen ▸ (List.getElem?_eq_some_iff.mp hl).1
    refine ⟨hop, overflows k b.block, overflows (k + 1) b.block,
      nextState .tov ((overflows k b.block).setTickflag false), tovTimes_eq ha k, ?_, ?_, ?_, ?_⟩
    · rw [overflows_succ']; exact exec_of_enabled (overflows_admitted ha k) rfl
    · rw [hafter]; rfl
    · exact exec_of_enabled (overflows_admitted ha k) rfl
    · rw [nextState_tov_tickflag_iff, ← overflows_wraps_within_tick ha hk]
      simp

end Sys2Proof.Machine
end

section
/-!
PROOFS. Operations in a row that the passes of one mode or one window repeat: the debounce window
(spec/41_button_debouncer.md R120, R121), and the ticks of the modes Max and Blink (spec/42_mode_scheduler.md R143,
R144).
-/

namespace Sys2Proof.Machine

/-- An admitted state stays admitted in any other phase that is not reserved. -/
theorem stateRefusal_setDphase {s : State} (ha : stateRefusal s = none) {p : Phase}
    (hp : phaseReserved p = false) : stateRefusal (s.setDphase p) = none := by
  obtain ⟨hwf, hmode, -, hrange⟩ := (stateRefusal_eq_none_iff s).mp ha
  exact (stateRefusal_eq_none_iff _).mpr ⟨hwf, hmode, hp, hrange⟩

/-! ### The debounce window -/

theorem consistentCount_cons (t : BPos) (l : Level) (ls : List Level) :
    consistentCount t (l :: ls) = consistentCount t [l] + consistentCount t ls := by
  cases h : consistent l t <;> simp [consistentCount, h, Nat.add_comm]

theorem atWindowTick_admitted {s : State} (ha : stateRefusal s = none) (l : Level) :
    stateRefusal (atWindowTick s l) = none :=
  stateRefusal_setDphase ha rfl

/-- The `DB_RUN` of one tick of the window. -/
theorem windowTicks_cons {s : State} (ha : stateRefusal s = none) (hbs : s.bstate = .debouncing) (l : Level)
    (ls : List Level) : windowTicks (l :: ls) s = windowTicks ls (nextState .dbRun (atWindowTick s l)) := by
  have he : enabled .dbRun (atWindowTick s l) = true := enabled_debounce (bs := .debouncing) rfl hbs
  rw [windowTicks, exec_of_enabled (atWindowTick_admitted ha l) he]
  rfl

/-- A tick of a running window counts the level if it is consistent; after the end nothing is left to count. -/
theorem goodAfter_atWindowTick {s : State} (hend : s.countdown = 0 → s.good = 0) (l : Level) :
    goodAfter (atWindowTick s l) = s.good - consistentCount (target s) [l] := by
  change (if 0 < s.countdown ∧ 0 < s.good ∧ consistent l (target s) = true then s.good - 1 else s.good) = _
  cases hmatch : consistent l (target s) with
  | false => simp [consistentCount, hmatch]
  | true =>
    have hone : consistentCount (target s) [l] = 1 := by simp [consistentCount, hmatch]
    simp only [hone, and_true]
    split <;> omega

/-- A window from any point of it: the levels left decide against the samples still needed. -/
theorem windowTicks_result (ls : List Level) {s : State} (ha : stateRefusal s = none)
    (hbs : s.bstate = .debouncing) (hend : s.countdown = 0 → s.good = 0) (hlen : ls.length = max s.countdown 1) :
    ∃ t, windowTicks ls s = .next t ∧ t.bpos = s.bpos ∧ t.mode = s.mode ∧ t.countdown = 0 ∧
      t.bstate = if s.good ≤ consistentCount (target s) ls then .debounced else .unknown := by
  induction ls generalizing s with
  | nil => rw [List.length_nil] at hlen; omega
  | cons l ls ih =>
    have hgood := goodAfter_atWindowTick hend l
    have hnext : (nextState .dbRun (atWindowTick s l)).bstate = if s.countdown - 1 = 0 then
        (if goodAfter (atWindowTick s l) = 0 then .debounced else .unknown) else .debouncing := rfl
    rw [List.length_cons] at hlen
    rw [windowTicks_cons ha hbs]
    by_cases hlast : s.countdown - 1 = 0
    · obtain rfl : ls = [] := List.eq_nil_of_length_eq_zero (by omega)
      refine ⟨_, rfl, rfl, rfl, hlast, ?_⟩
      rw [hnext, if_pos hlast, hgood]
      exact if_congr Nat.sub_eq_zero_iff_le rfl rfl
    · obtain ⟨t, hrun, hpos, hmode, hcount, hresult⟩ :=
        ih (s := nextState .dbRun (atWindowTick s l)) (nextState_admitted .dbRun (atWindowTick_admitted ha l))
          (hnext.trans (if_neg hlast)) (fun h => absurd h hlast)
          (by change ls.length = max (s.countdown - 1) 1; omega)
      refine ⟨t, hrun, hpos, hmode, hcount, hresult.trans (if_congr ?_ rfl rfl)⟩
      change goodAfter (atWindowTick s l) ≤ consistentCount (target s) ls ↔ _
      rw [hgood, consistentCount_cons _ l ls, Nat.sub_le_iff_le_add']

/-- Settles O49: `DB_ARM` loads the window, and its levels decide it. -/
theorem debounceCommitsIffHalfMatch : Obligations.DebounceCommitsIffHalfMatch := by
  intro s ls ha hph hbs hlen
  have harm : debounceWindow ls s = windowTicks ls (nextState .dbArm s) := by
    have he : enabled .dbArm s = true := enabled_debounce (bs := .triggered) hph hbs
    rw [debounceWindow, exec_of_enabled ha he]
    rfl
  have hend : timeoutFor s.cfg (target s) = 0 → timeoutFor s.cfg (target s) / 2 = 0 := by omega
  rw [harm]
  exact windowTicks_result ls (s := nextState .dbArm s) (nextState_admitted .dbArm ha) rfl hend hlen

/-! ### The ticks of a mode -/

/-- The state after the operation `i` of phase `P_MODE` in each of `n` passes. -/
def modeTicks (i : Instr) (n : Nat) (s : State) : State := (fun s => nextState i (s.setDphase .mode))^[n] s

theorem modeTicks_one (i : Instr) (s : State) : modeTicks i 1 s = nextState i (s.setDphase .mode) := rfl

theorem modeTicks_add (i : Instr) (m n : Nat) (s : State) :
    modeTicks i (m + n) s = modeTicks i n (modeTicks i m s) := by
  rw [Nat.add_comm]
  exact Function.iterate_add_apply _ n m s

theorem modeTicks_succ (i : Instr) (n : Nat) (s : State) :
    modeTicks i (n + 1) s = modeTicks i n (nextState i (s.setDphase .mode)) := rfl

section
variable {s : State} (ha : stateRefusal s = none)
include ha

theorem blinkTicks_eq (hmode : s.mode = .blink) (n : Nat) : blinkTicks n s = .next (modeTicks .mBlink n s) := by
  induction n generalizing s with
  | zero => rfl
  | succ n ih =>
    have ha' : stateRefusal (s.setDphase .mode) = none := stateRefusal_setDphase ha rfl
    rw [blinkTicks, exec_of_enabled ha' (enabled_mode (s := s.setDphase .mode) rfl hmode rfl), modeTicks_succ]
    exact ih (nextState_admitted .mBlink ha') hmode

theorem maxTicks_eq (hmode : s.mode = .max) (n : Nat) : maxTicks n s = .next (modeTicks .mMax n s) := by
  induction n generalizing s with
  | zero => rfl
  | succ n ih =>
    have ha' : stateRefusal (s.setDphase .mode) = none := stateRefusal_setDphase ha rfl
    rw [maxTicks, exec_of_enabled ha' (enabled_mode (s := s.setDphase .mode) rfl hmode rfl), modeTicks_succ]
    exact ih (nextState_admitted .mMax ha') hmode

end

/-- While the delay runs, a gated operation decrements it and nothing else. -/
theorem nextState_of_held {i : Instr} (hi : i = .mMax ∨ i = .mBlink) {s : State} (hd : s.mdelay ≠ 0) :
    nextState i s = { s with mdelay := s.mdelay - 1, dphase := .status } := by
  obtain rfl | rfl := hi <;> simp [nextState, hd]

/-- The ticks of a leftover delay hold every register but `MDELAY` and the phase. -/
theorem modeTicks_of_held {i : Instr} (hi : i = .mMax ∨ i = .mBlink) {n : Nat} {s : State} (hn : n ≤ s.mdelay) :
    ∃ p, modeTicks i n s = { s with mdelay := s.mdelay - n, dphase := p } := by
  induction n generalizing s with
  | zero => exact ⟨s.dphase, rfl⟩
  | succ n ih =>
    have hd : (s.setDphase .mode).mdelay ≠ 0 := by rw [State.setDphase_mdelay]; omega
    rw [modeTicks_succ, nextState_of_held hi hd]
    obtain ⟨p, hrest⟩ := ih (s := { s.setDphase .mode with mdelay := s.mdelay - 1, dphase := .status })
      (by change n ≤ s.mdelay - 1; omega)
    refine ⟨p, hrest.trans ?_⟩
    rw [show s.mdelay - (n + 1) = s.mdelay - 1 - n by omega]
    rfl

/-! ### Mode Blink -/

/-- A state that has just applied the table entry at `k`, and is otherwise `s`. -/
def applyEntry (s : State) (k : Nat) : State :=
  { s with
    mdelay := s.cfg.blinkDelay, eidx := (k + 1) % s.cfg.effectLen, lastduty := entryAt s.cfg k
    ocr := entryAt s.cfg k % 2 ^ s.cfg.dutyW }

theorem nextState_mBlink_of_open {s : State} (hd : s.mdelay = 0) :
    nextState .mBlink s = (applyEntry s s.eidx).setDphase .status := by
  simp [nextState, applyEntry, State.setDphase, hd]

/-- The delay after an entry and the next tick apply the next entry. -/
theorem modeTicks_blink_period (s : State) :
    ∃ p, modeTicks .mBlink (s.mdelay + 1) s = (applyEntry s s.eidx).setDphase p := by
  obtain ⟨p, hheld⟩ := modeTicks_of_held (i := .mBlink) (.inr rfl) (le_refl s.mdelay)
  refine ⟨.status, ?_⟩
  rw [modeTicks_add, hheld, modeTicks_one, nextState_mBlink_of_open (Nat.sub_self s.mdelay)]
  rfl

/-- After the leftover delay, `k` periods and one more tick have applied the entry `k` places on. -/
theorem modeTicks_blink_replay {s : State} (hidx : s.eidx < s.cfg.effectLen) (k : Nat) :
    ∃ p, modeTicks .mBlink (s.mdelay + (k * (s.cfg.blinkDelay + 1) + 1)) s =
      (applyEntry s ((s.eidx + k) % s.cfg.effectLen)).setDphase p := by
  induction k with
  | zero =>
    simp only [Nat.zero_mul, Nat.zero_add, Nat.add_zero, Nat.mod_eq_of_lt hidx]
    exact modeTicks_blink_period s
  | succ k ih =>
    obtain ⟨p, hbefore⟩ := ih
    obtain ⟨q, hafter⟩ := modeTicks_blink_period ((applyEntry s ((s.eidx + k) % s.cfg.effectLen)).setDphase p)
    refine ⟨q, ?_⟩
    calc modeTicks .mBlink (s.mdelay + ((k + 1) * (s.cfg.blinkDelay + 1) + 1)) s
        = modeTicks .mBlink (s.mdelay + (k * (s.cfg.blinkDelay + 1) + 1) + (s.cfg.blinkDelay + 1)) s := by
          congr 1; ring
      _ = (applyEntry ((applyEntry s ((s.eidx + k) % s.cfg.effectLen)).setDphase p)
            (((s.eidx + k) % s.cfg.effectLen + 1) % s.cfg.effectLen)).setDphase q := by
          rw [modeTicks_add, hbefore]; exact hafter
      _ = (applyEntry s ((s.eidx + (k + 1)) % s.cfg.effectLen)).setDphase q := by
          rw [Nat.mod_add_mod, Nat.add_assoc]; rfl

theorem entryAt_spec {c : Config} (hwf : c.wf = true) {k : Nat} (hk : k < c.effectLen) :
    c.effect[k]? = some (entryAt c k) := by
  obtain ⟨e, hentry, -⟩ := effect_entry hwf hk
  rw [entryAt, hentry, Option.getD_some]

/-- Settles O50: the leftover delay, then whole periods, then the delay after the last entry. -/
theorem blinkReplaysTable : Obligations.BlinkReplaysTable := by
  intro s ha hmode
  obtain ⟨hwf, -, -, hrange⟩ := (stateRefusal_eq_none_iff s).mp ha
  obtain ⟨-, hidx, -⟩ := (inRange_iff s).mp hrange
  refine ⟨fun n hn => ?_, fun k j hj => ?_⟩
  · obtain ⟨p, hheld⟩ := modeTicks_of_held (i := .mBlink) (.inr rfl) hn
    exact ⟨_, (blinkTicks_eq ha hmode n).trans (congrArg _ hheld), rfl, rfl, rfl, rfl⟩
  · obtain ⟨p, happlied⟩ := modeTicks_blink_replay hidx k
    obtain ⟨q, hheld⟩ := modeTicks_of_held (i := .mBlink) (.inr rfl)
      (s := (applyEntry s ((s.eidx + k) % s.cfg.effectLen)).setDphase p) hj
    have hk : (s.eidx + k) % s.cfg.effectLen < s.cfg.effectLen := Nat.mod_lt _ (by omega)
    refine ⟨_, entryAt s.cfg ((s.eidx + k) % s.cfg.effectLen), blinkTicks_eq ha hmode _,
      entryAt_spec hwf hk, ?_⟩
    rw [← Nat.add_assoc, modeTicks_add, happlied, hheld]
    exact ⟨rfl, rfl, rfl, Nat.mod_add_mod _ _ _⟩

/-! ### Mode Max -/

/-- A state that has just applied `MAX_MODE_DUTY`, and is otherwise `s`. -/
def applyMax (s : State) : State :=
  { s with
    mdelay := 0, lastduty := s.cfg.maxModeDuty, eidx := 0, ocr := s.cfg.maxModeDuty % 2 ^ s.cfg.dutyW
    dphase := .status }

theorem nextState_mMax_of_open {s : State} (hd : s.mdelay = 0) : nextState .mMax s = applyMax s := by
  simp [nextState, applyMax, hd]

/-- With no delay left, every tick of mode Max leads to the same registers. -/
theorem modeTicks_max_of_open {s : State} (hd : s.mdelay = 0) (n : Nat) :
    modeTicks .mMax (n + 1) s = applyMax s := by
  induction n with
  | zero => exact nextState_mMax_of_open hd
  | succ n ih =>
    rw [modeTicks_add, ih]
    exact nextState_mMax_of_open rfl

/-- The ticks of mode Max after a leftover delay. -/
theorem modeTicks_max_after {s : State} {n : Nat} (hn : s.mdelay < n) : modeTicks .mMax n s = applyMax s := by
  obtain ⟨p, hheld⟩ := modeTicks_of_held (i := .mMax) (.inl rfl) (le_refl s.mdelay)
  obtain ⟨m, rfl⟩ : ∃ m, n = s.mdelay + (m + 1) := ⟨n - s.mdelay - 1, by omega⟩
  rw [modeTicks_add, hheld]
  exact modeTicks_max_of_open (Nat.sub_self _) m

theorem defaultMaxModeDuty_lt {m : Nat} (h : 1 ≤ m) : Config.defaultMaxModeDuty m < m := by
  unfold Config.defaultMaxModeDuty
  omega

/-- Settles O51: the ticks up to the leftover delay hold, and those after it apply. -/
theorem maxModeHoldsConfiguredDuty : Obligations.MaxModeHoldsConfiguredDuty := by
  refine ⟨fun s n ha hmode => ⟨modeTicks .mMax n s, maxTicks_eq ha hmode n, ?_⟩, fun c hwf => ?_⟩
  · by_cases hn : n ≤ s.mdelay
    · obtain ⟨p, hheld⟩ := modeTicks_of_held (i := .mMax) (.inl rfl) hn
      rw [hheld]
      exact ⟨hmode, rfl, fun _ => ⟨rfl, rfl, rfl⟩, fun h => absurd h (by omega)⟩
    · rw [modeTicks_max_after (by omega)]
      exact ⟨hmode, by change 0 = s.mdelay - n; omega, fun h => absurd h hn,
        fun _ => ⟨rfl, rfl, rfl, Nat.mod_eq_of_lt⟩⟩
  · obtain ⟨-, -, -, hmax, hwidth, -⟩ := (config_wf_iff c).mp hwf
    have hlt := defaultMaxModeDuty_lt hmax
    exact ⟨hlt, hlt.trans_le hwidth⟩

end Sys2Proof.Machine
end

section
/-!
PROOFS. Whole passes: a pass that does not run `M_OFF` (spec/44_dispatcher.md R179), and the first pass after reset,
which does (spec/70_reset_and_hazards.md R211).
-/

namespace Sys2Proof.Machine

/-! ### A pass without `M_OFF` -/

/-- The state after a dispatcher step that performs `i`. -/
def dispatched (i : Instr) (s : State) : State := advanceEnv (nextState i s)

theorem dispatched_admitted {s : State} (ha : stateRefusal s = none) (i : Instr) :
    stateRefusal (dispatched i s) = none := nextState_admitted i ha

/-- A scripted dispatcher step performs the enabled dispatcher operation and takes its input. -/
theorem dispatched_of_script {i : Instr} {s : State} {l : Level} {rest : List Input}
    (ha : stateRefusal s = none) (hi : i.agent = .dispatcher) (he : enabled i s = true)
    (hscript : s.env.script = ⟨.dispatcher, l⟩ :: rest) :
    select s = .operation i ∧ step s = .next (dispatched i s) ∧ (dispatched i s).env.script = rest := by
  have hsrc : i.agent.source = sourceNow s := by rw [hi, sourceNow, envNow, hscript]; rfl
  have hstep : step s = .next (dispatched i s) := step_of_enabled ha hsrc he
  refine ⟨(select_eq_operation_iff_enabled s i).mpr ⟨hsrc, he⟩, hstep, ?_⟩
  rw [step_env hstep, envNext_script, hscript, List.tail_cons]

theorem nextState_debounce_dphase (bs : BState) (s : State) :
    (nextState (decodeDebounce bs) s).dphase = .mode := by
  cases bs <;> rfl

/-- A debounce operation other than `DB_COMMIT` leaves the mode. -/
theorem nextState_debounce_mode {bs : BState} (h : bs ≠ .debounced) (s : State) :
    (nextState (decodeDebounce bs) s).mode = s.mode := by
  cases bs with
  | debounced => exact absurd rfl h
  | _ => rfl

/-- Where the pass does not run `M_OFF`, its debounce operation leaves the mode Max or Blink. -/
theorem mode_of_not_passRunsOff {s : State} (hlegal : s.mode ≠ .reserved) (h : passRunsOff s = false) :
    (nextState (decodeDebounce s.bstate) s).mode = .max ∨
      (nextState (decodeDebounce s.bstate) s).mode = .blink := by
  by_cases hpress : s.bstate = .debounced ∧ s.bpos = .released
  · obtain ⟨hbs, hpos⟩ := hpress
    have hnext : (nextState (decodeDebounce s.bstate) s).mode = modeAdvance s.mode := by
      rw [hbs]; exact if_pos hpos
    rw [hnext]
    cases hmode : s.mode with
    | off => exact .inl modeAdvance_off
    | max => exact .inr modeAdvance_max
    | blink => simp [passRunsOff, hbs, hpos, hmode] at h
    | reserved => exact absurd hmode hlegal
  · have hnext : (nextState (decodeDebounce s.bstate) s).mode = s.mode := by
      by_cases hbs : s.bstate = .debounced
      · have hpos : s.bpos ≠ .released := fun hpos => hpress ⟨hbs, hpos⟩
        rw [hbs]; exact if_neg hpos
      · exact nextState_debounce_mode hbs s
    rw [hnext]
    cases hmode : s.mode with
    | off => simp [passRunsOff, hpress, hmode] at h
    | max => exact .inl rfl
    | blink => exact .inr rfl
    | reserved => exact absurd hmode hlegal

/-- In phase `P_MODE` of mode Max or Blink the mode operation is the one that `MODE` selects, and it leads to
`P_STATUS`. -/
theorem enabled_duty_operation {s : State} (hph : s.dphase = .mode) (hmode : s.mode = .max ∨ s.mode = .blink) :
    ∃ i, i.agent = .dispatcher ∧ enabled i s = true ∧ (nextState i s).dphase = .status ∧
      ((s.mode = .max ∧ i = .mMax) ∨ (s.mode = .blink ∧ i = .mBlink)) := by
  obtain hmode | hmode := hmode
  · exact ⟨.mMax, rfl, enabled_mode hph hmode rfl, rfl, .inl ⟨hmode, rfl⟩⟩
  · exact ⟨.mBlink, rfl, enabled_mode hph hmode rfl, rfl, .inr ⟨hmode, rfl⟩⟩

/-- Settles O58: five scripted dispatcher steps, of which the second and the third are chosen by the registers. -/
theorem passWithoutOffIsFiveOperations : Obligations.PassWithoutOffIsFiveOperations := by
  intro s l₁ l₂ l₃ l₄ l₅ rest ha hph hflag hoff hscript
  obtain ⟨-, hlegal, -, -⟩ := (stateRefusal_eq_none_iff s).mp ha
  have he₁ : enabled .start s = true := by simp [enabled, tickPending, hph, hflag]
  obtain ⟨hsel₁, hstep₁, hscript₁⟩ := dispatched_of_script ha rfl he₁ hscript
  have ha₁ := dispatched_admitted ha .start
  have he₂ : enabled (decodeDebounce s.bstate) (dispatched .start s) = true := enabled_debounce rfl rfl
  obtain ⟨hsel₂, hstep₂, hscript₂⟩ := dispatched_of_script ha₁ (decodeDebounce_agent _) he₂ hscript₁
  have ha₂ := dispatched_admitted ha₁ (decodeDebounce s.bstate)
  have hph₂ : (dispatched (decodeDebounce s.bstate) (dispatched .start s)).dphase = .mode :=
    nextState_debounce_dphase _ _
  have hmode := mode_of_not_passRunsOff (s := dispatched .start s) hlegal hoff
  obtain ⟨i, hi, he₃, hph₃, hwhich⟩ := enabled_duty_operation hph₂ hmode
  obtain ⟨hsel₃, hstep₃, hscript₃⟩ := dispatched_of_script ha₂ hi he₃ hscript₂
  have ha₃ := dispatched_admitted ha₂ i
  have he₄ : enabled .stat (dispatched i (dispatched (decodeDebounce s.bstate) (dispatched .start s))) = true :=
    beq_iff_eq.mpr hph₃
  obtain ⟨hsel₄, hstep₄, hscript₄⟩ := dispatched_of_script ha₃ rfl he₄ hscript₃
  obtain ⟨hsel₅, hstep₅, hscript₅⟩ :=
    dispatched_of_script (i := .clr) (dispatched_admitted ha₃ .stat) rfl rfl hscript₄
  refine ⟨_, _, _, _, _, ⟨hsel₁, hstep₁, rfl⟩, ⟨hsel₂, hstep₂, hph₂⟩, ⟨?_, hstep₃, hph₃⟩,
    ⟨hsel₄, hstep₄, rfl⟩, ⟨hsel₅, hstep₅, rfl⟩, rfl, hscript₅⟩
  obtain ⟨hmax, rfl⟩ | ⟨hblink, rfl⟩ := hwhich
  · exact .inl ⟨hmax, hsel₃⟩
  · exact .inr ⟨hblink, hsel₃⟩

/-! ### A pass on the test bench -/

theorem dispatcherHolds_iff (s : State) : dispatcherHolds s = true ↔ Holding s := by
  simp [dispatcherHolds, Holding]

/-- A pass takes the enabled dispatcher operation, and goes on unless that ends it. -/
theorem passWithin_of_enabled {i : Instr} {b : Bench} (n : Nat) (ha : stateRefusal b.block = none)
    (hi : i.agent = .dispatcher) (he : enabled i b.block = true) (hnext : (afterAct i b).block.dphase ≠ .wait) :
    passWithin (n + 1) b = passWithin n (afterAct i b) := by
  have hrun : ¬dispatcherHolds b.block = true := by
    rw [dispatcherHolds_iff]
    exact (enabled_dispatcher_iff_not_holding ha).mp ⟨i, hi, he⟩
  have hact : act .dispatcher b = .next (afterAct i b) := by
    have h := act_of_enabled ha he
    rwa [hi] at h
  rw [passWithin, if_neg hrun, hact, benchThen_next, if_neg hnext]

theorem passWithin_of_holding {b : Bench} (n : Nat) (h : Holding b.block) : passWithin (n + 1) b = .next b := by
  rw [passWithin, if_pos ((dispatcherHolds_iff _).mpr h)]

/-- The bench after `M_OFF` and the shutdown sequence. -/
def afterShutdown (b : Bench) : Bench :=
  afterAct .sleep (afterAct .pdLed (afterAct .pdDrv (afterAct .pdClk (afterAct .mOff b))))

theorem passWithin_shutdown {b : Bench} (n : Nat) (ha : stateRefusal b.block = none)
    (hph : b.block.dphase = .mode) (hmode : b.block.mode = .off) :
    passWithin (n + 5) b = passWithin n (afterShutdown b) := by
  have ha₁ := afterAct_admitted (i := .mOff) ha
  have ha₂ := afterAct_admitted (i := .pdClk) ha₁
  have ha₃ := afterAct_admitted (i := .pdDrv) ha₂
  have ha₄ := afterAct_admitted (i := .pdLed) ha₃
  rw [passWithin_of_enabled (i := .mOff) _ ha rfl (enabled_mode hph hmode rfl) nofun,
    passWithin_of_enabled (i := .pdClk) _ ha₁ rfl rfl nofun,
    passWithin_of_enabled (i := .pdDrv) _ ha₂ rfl rfl nofun,
    passWithin_of_enabled (i := .pdLed) _ ha₃ rfl rfl nofun,
    passWithin_of_enabled (i := .sleep) _ ha₄ rfl rfl nofun]
  rfl

/-- All that the shutdown sequence does to the block, but for the environment. -/
theorem afterShutdown_block (b : Bench) : ∃ e, (afterShutdown b).block =
    { b.block with env := e, pwmclkEn := false, outEn := false, status := false, dphase := .asleep } := by
  obtain ⟨e₁, h₁⟩ := afterAct_block (i := .mOff) (by decide) (by decide) b
  obtain ⟨e₂, h₂⟩ := afterAct_block (i := .pdClk) (by decide) (by decide) (afterAct .mOff b)
  obtain ⟨e₃, h₃⟩ := afterAct_block (i := .pdDrv) (by decide) (by decide)
    (afterAct .pdClk (afterAct .mOff b))
  obtain ⟨e₄, h₄⟩ := afterAct_block (i := .pdLed) (by decide) (by decide)
    (afterAct .pdDrv (afterAct .pdClk (afterAct .mOff b)))
  obtain ⟨e₅, h₅⟩ := afterAct_block (i := .sleep) (by decide) (by decide)
    (afterAct .pdLed (afterAct .pdDrv (afterAct .pdClk (afterAct .mOff b))))
  refine ⟨e₅, ?_⟩
  rw [afterShutdown, h₅, h₄, h₃, h₂, h₁]
  rfl

theorem afterShutdown_asleep (b : Bench) : (afterShutdown b).block.dphase = .asleep := by
  obtain ⟨e, hblock⟩ := afterShutdown_block b
  rw [hblock]

/-- The operations of a pass in mode Off whose debounce operation is `i`. -/
def offPassOps (i : Instr) : List (Option Instr) :=
  [some .start, some i, some .mOff, some .pdClk, some .pdDrv, some .pdLed, some .sleep]

/-- The bench after the pass that starts in mode Off with `BSTATE` at `bs`. -/
def afterOffPass (bs : BState) (b : Bench) : Bench :=
  afterShutdown (afterAct (decodeDebounce bs) (afterAct .start b))

/-! ### The first pass after reset -/

/-- What holds of the block between reset, in configuration `c`, and its first pass. -/
structure AwaitsTick (c : Config) (bs : BState) (s : State) : Prop where
  admitted : stateRefusal s = none
  cfg_eq : s.cfg = c
  dphase_eq : s.dphase = .wait
  mode_eq : s.mode = .off
  bstate_eq : s.bstate = bs
  bpos_eq : s.bpos = .released

section
variable {c : Config} {bs : BState} {s : State}

theorem AwaitsTick.resetWith (hwf : c.wf = true) : AwaitsTick c .unknown (State.resetWith c) :=
  ⟨resetWith_admitted hwf, rfl, rfl, rfl, rfl, rfl⟩

theorem AwaitsTick.setEnv (h : AwaitsTick c bs s) (e : Env) : AwaitsTick c bs (s.setEnv e) :=
  ⟨h.admitted, h.cfg_eq, h.dphase_eq, h.mode_eq, h.bstate_eq, h.bpos_eq⟩

theorem AwaitsTick.tov (h : AwaitsTick c bs s) : AwaitsTick c bs (nextState .tov s) :=
  ⟨nextState_admitted .tov h.admitted, h.cfg_eq, by simp [nextState, h.dphase_eq], h.mode_eq, h.bstate_eq,
    h.bpos_eq⟩

theorem AwaitsTick.pci (h : AwaitsTick c .unknown s) : AwaitsTick c .triggered (nextState .pci s) :=
  ⟨nextState_admitted .pci h.admitted, h.cfg_eq, by simp [nextState, h.dphase_eq], h.mode_eq, if_pos h.bstate_eq,
    h.bpos_eq⟩

theorem AwaitsTick.overflows (h : AwaitsTick c bs s) (n : Nat) : AwaitsTick c bs (overflows n s) := by
  induction n with
  | zero => exact h
  | succ n ih => rw [overflows_succ']; exact ih.tov

end

section
variable {c : Config} {bs : BState} {b : Bench} (h : AwaitsTick c bs b.block)
include h

/-- The pass from a waiting block in mode Off with the flag set ends asleep after seven operations. -/
theorem passWithin_of_awaitsTick (hflag : b.block.tickflag = true) (hbs : bs ≠ .debounced) :
    passWithin passBound b = .next (afterOffPass bs b) := by
  have he : enabled .start b.block = true := by simp [enabled, tickPending, h.dphase_eq, hflag]
  have ha₁ := afterAct_admitted (i := .start) h.admitted
  have he₁ : enabled (decodeDebounce bs) (afterAct .start b).block = true := enabled_debounce rfl h.bstate_eq
  have hph₂ : (afterAct (decodeDebounce bs) (afterAct .start b)).block.dphase = .mode :=
    nextState_debounce_dphase _ _
  have hmode₂ : (afterAct (decodeDebounce bs) (afterAct .start b)).block.mode = .off :=
    (nextState_debounce_mode hbs _).trans h.mode_eq
  calc passWithin (8 + 1 + 5 + 1 + 1) b
      = passWithin (8 + 1 + 5 + 1) (afterAct .start b) := passWithin_of_enabled _ h.admitted rfl he nofun
    _ = passWithin (8 + 1 + 5) (afterAct (decodeDebounce bs) (afterAct .start b)) :=
        passWithin_of_enabled _ ha₁ (decodeDebounce_agent bs) he₁ (by rw [hph₂]; decide)
    _ = passWithin (8 + 1) (afterOffPass bs b) := passWithin_shutdown _ (afterAct_admitted ha₁) hph₂ hmode₂
    _ = .next (afterOffPass bs b) := passWithin_of_holding _ (.inl (afterShutdown_asleep _))

end

/-- All that the pass ending asleep does to the block, but for the environment: the debounce operation's work, and
the outputs off. -/
theorem afterOffPass_block {bs : BState} (hbs : bs = .unknown ∨ bs = .triggered) (b : Bench) :
    ∃ e, (afterOffPass bs b).block = { nextState (decodeDebounce bs) b.block with
      env := e, pwmclkEn := false, outEn := false, status := false, dphase := .asleep } := by
  obtain ⟨e₁, h₁⟩ := afterAct_block (i := .start) (by decide) (by decide) b
  obtain ⟨e₂, h₂⟩ := afterAct_block (i := decodeDebounce bs) (by obtain rfl | rfl := hbs <;> decide)
    (by obtain rfl | rfl := hbs <;> decide) (afterAct .start b)
  obtain ⟨e₃, h₃⟩ := afterShutdown_block (afterAct (decodeDebounce bs) (afterAct .start b))
  refine ⟨e₃, ?_⟩
  rw [afterOffPass, h₃, h₂, h₁]
  obtain rfl | rfl := hbs <;> rfl

theorem afterOffPass_ops (bs : BState) (b : Bench) :
    (afterOffPass bs b).trace.map TraceLine.op =
      b.trace.map TraceLine.op ++ offPassOps (decodeDebounce bs) := by
  simp [afterOffPass, afterShutdown, afterAct, offPassOps]

/-- The pass that ends asleep, in the terms that do not name its benches. -/
theorem exists_offPass {c : Config} {bs : BState} {b : Bench} (h : AwaitsTick c bs b.block)
    (hflag : b.block.tickflag = true) (hbs : bs = .unknown ∨ bs = .triggered) :
    ∃ b' e, passWithin passBound b = .next b' ∧
      b'.block = { nextState (decodeDebounce bs) b.block with
        env := e, pwmclkEn := false, outEn := false, status := false, dphase := .asleep } ∧
      b'.trace.map TraceLine.op = b.trace.map TraceLine.op ++ offPassOps (decodeDebounce bs) := by
  obtain ⟨e, hblock⟩ := afterOffPass_block hbs b
  have hnd : bs ≠ .debounced := by obtain rfl | rfl := hbs <;> decide
  exact ⟨afterOffPass bs b, e, passWithin_of_awaitsTick h hflag hnd, hblock, afterOffPass_ops bs b⟩

/-- The operations of the trace after `n` overflows. -/
theorem OverflowsOnBench.ops {n : Nat} {b b' : Bench} {lines : List TraceLine}
    (h : OverflowsOnBench n b b' lines) :
    b'.trace.map TraceLine.op = b.trace.map TraceLine.op ++ List.replicate n (some Instr.tov) := by
  have hall : lines.map TraceLine.op = List.replicate n (some Instr.tov) := by
    refine List.eq_replicate_iff.mpr ⟨by rw [List.length_map, h.length_eq], fun op hop => ?_⟩
    obtain ⟨l, hl, rfl⟩ := List.mem_map.mp hop
    obtain ⟨k, hk⟩ := List.mem_iff_getElem?.mp hl
    exact (h.line_eq k l hk).1
  rw [h.trace_eq, List.map_append, hall]

theorem runScript_replicate_tov (n : Nat) (b : Bench) :
    runScript (List.replicate n .tov) b = repeatAct (act .tov) n b := by
  induction n generalizing b with
  | zero => rfl
  | succ n ih => rw [List.replicate_succ, runScript, repeatAct_succ, funext ih]; rfl

theorem runScript_singleton (t : Token) {b b' : Bench} (h : runToken t b = .next b') :
    runScript [t] b = .next b' := by
  rw [runScript, h]; rfl

/-- The first part of spec/70_reset_and_hazards.md R211: no event but the overflows. -/
theorem first_tick_without_pc {c : Config} (hwf : c.wf = true) :
    ∃ b : Bench, runScript [.tick, .pass] (benchOf (State.resetWith c)) = .next b ∧ shutDown b.block ∧
      b.block.tickflag = true ∧ b.block.bstate = .unknown ∧
      b.trace.map TraceLine.op = List.replicate c.tickDiv (some Instr.tov) ++ offPassOps .dbIdle := by
  have hreset := AwaitsTick.resetWith hwf
  obtain ⟨b, lines, hrun, hlines⟩ := repeatAct_tov c.tickDiv (b := benchOf (State.resetWith c)) hreset.admitted
  obtain ⟨e, hblock⟩ := hlines.block_eq
  have hawaits : AwaitsTick c .unknown b.block := by
    rw [hblock]; exact (hreset.overflows _).setEnv e
  have hflag : b.block.tickflag = true := by
    rw [hblock]
    exact (overflows_tickflag hreset.admitted _).mpr (.inr (Nat.le_add_left _ _))
  obtain ⟨b', e', hpass, hend, hops⟩ := exists_offPass hawaits hflag (.inl rfl)
  refine ⟨b', ?_, ?_⟩
  · rw [runScript, show runToken .tick (benchOf (State.resetWith c)) = .next b from hrun, benchThen_next]
    exact runScript_singleton .pass hpass
  · rw [hend, hops, hlines.ops]
    exact ⟨⟨rfl, hawaits.mode_eq, rfl, rfl, rfl⟩, hflag, hawaits.bstate_eq, rfl⟩

/-- The second part of spec/70_reset_and_hazards.md R211: a pin change after `j` of the overflows. -/
theorem first_tick_with_pc {c : Config} (hwf : c.wf = true) {j : Nat} (hj : j ≤ c.tickDiv) :
    ∃ b : Bench, runScript
        (List.replicate j Token.tov ++ Token.pc :: (List.replicate (c.tickDiv - j) Token.tov ++ [Token.pass]))
        (benchOf (State.resetWith c)) = .next b ∧ shutDown b.block ∧
      b.block.tickflag = true ∧ b.block.bstate = .debouncing ∧ b.block.countdown = c.pressTimeout ∧
      b.trace.map TraceLine.op = List.replicate j (some Instr.tov) ++ some Instr.pci ::
        (List.replicate (c.tickDiv - j) (some Instr.tov) ++ offPassOps .dbArm) := by
  have hreset := AwaitsTick.resetWith hwf
  obtain ⟨b₁, lines₁, hrun₁, hlines₁⟩ :=
    repeatAct_tov j (b := benchOf (State.resetWith c)) hreset.admitted
  obtain ⟨e₁, hblock₁⟩ := hlines₁.block_eq
  have hawaits₁ : AwaitsTick c .unknown b₁.block := by
    rw [hblock₁]; exact (hreset.overflows _).setEnv e₁
  obtain ⟨e₂, hblock₂⟩ := afterAct_block (i := .pci) (by decide) (by decide) b₁
  have hawaits₂ : AwaitsTick c .triggered (afterAct .pci b₁).block := by
    rw [hblock₂]; exact hawaits₁.pci.setEnv e₂
  obtain ⟨b₃, lines₃, hrun₃, hlines₃⟩ := repeatAct_tov (c.tickDiv - j) hawaits₂.admitted
  obtain ⟨e₃, hblock₃⟩ := hlines₃.block_eq
  have hawaits₃ : AwaitsTick c .triggered b₃.block := by
    rw [hblock₃]; exact (hawaits₂.overflows _).setEnv e₃
  have hflag : b₃.block.tickflag = true := by
    have hkeep : (afterAct .pci b₁).block.tickflag = (overflows j (State.resetWith c)).tickflag := by
      rw [hblock₂, hblock₁]; rfl
    have hsub : (afterAct .pci b₁).block.subdiv = (0 + j) % c.tickDiv := by
      rw [hblock₂, hblock₁]; exact overflows_subdiv hreset.admitted j
    rw [hblock₃]
    refine (overflows_tickflag hawaits₂.admitted _).mpr ?_
    rw [hkeep, hsub, hawaits₂.cfg_eq, overflows_tickflag hreset.admitted]
    obtain rfl | hlt := hj.eq_or_lt
    · exact .inl (.inr (Nat.le_add_left _ _))
    · right
      rw [Nat.zero_add, Nat.mod_eq_of_lt hlt]
      omega
  have hpc : runToken .pc b₁ = .next (afterAct .pci b₁) := act_of_enabled (i := .pci) hawaits₁.admitted rfl
  obtain ⟨b₄, e₄, hpass, hend, hops⟩ := exists_offPass hawaits₃ hflag (.inr rfl)
  refine ⟨b₄, ?_, ?_⟩
  · rw [runScript_append, runScript_replicate_tov, hrun₁, benchThen_next, runScript, hpc, benchThen_next,
      runScript_append, runScript_replicate_tov, hrun₃, benchThen_next]
    exact runScript_singleton .pass hpass
  · have hload : timeoutFor b₃.block.cfg (target b₃.block) = c.pressTimeout := by
      rw [target_of_released hawaits₃.bpos_eq, hawaits₃.cfg_eq]; rfl
    have hpci : (afterAct .pci b₁).trace.map TraceLine.op = b₁.trace.map TraceLine.op ++ [some Instr.pci] :=
      List.map_append
    rw [hend, hops, hlines₃.ops, hpci, hlines₁.ops]
    exact ⟨⟨rfl, hawaits₃.mode_eq, rfl, rfl, rfl⟩, hflag, rfl, hload, by simp [benchOf, decodeDebounce]⟩

/-- Settles O3: without a pin change the block stays `Unknown`, with one the first pass arms the window. -/
theorem firstTickAfterResetEndsAsleep : Obligations.FirstTickAfterResetEndsAsleep := fun _ hwf =>
  ⟨first_tick_without_pc hwf, fun _ hj => first_tick_with_pc hwf hj⟩

end Sys2Proof.Machine
end
